-- ==== Sys2Proof/Word.lean ====
section
/-! DEFINITION. The word types of the core: the 16-bit cycle word, its 5-bit address and 8-bit data byte (R57, R73). -/

namespace Sys2Proof

/-- One data byte, `D[7:0]` of the cycle word and of every register access (R48, R57). -/
abbrev Byte := BitVec 8

/-- One register address, `A[4:0]`: exactly 5 bits, so an address above 31 cannot be expressed (R41). -/
abbrev Addr := BitVec 5

/-- The word the core samples from its pins in one clock cycle: RES, CS, RW, A[4:0], D[7:0] from bit 15 down (R57). -/
abbrev CycleWord := BitVec 16

end Sys2Proof
end

