-- ==== Sys2Proof/Syntax.lean ====
section
/-! DEFINITION. The operations of the core: `Instr`, one constructor per row of spec/opcode_table.json; `Reg`, the
32 register names of R61; and the script lines of R76. -/

namespace Sys2Proof

/-- The names of the 32 register addresses, in address order (R61, R78). -/
inductive Reg
  | v1FreqLo
  | v1FreqHi
  | v1PwLo
  | v1PwHi
  | v1Control
  | v1AttackDecay
  | v1SustainRelease
  | v2FreqLo
  | v2FreqHi
  | v2PwLo
  | v2PwHi
  | v2Control
  | v2AttackDecay
  | v2SustainRelease
  | v3FreqLo
  | v3FreqHi
  | v3PwLo
  | v3PwHi
  | v3Control
  | v3AttackDecay
  | v3SustainRelease
  | fcLo
  | fcHi
  | resFilt
  | modeVol
  | potx
  | poty
  | osc3
  | env3
  | unused1D
  | unused1E
  | unused1F
  deriving DecidableEq, Repr

/-- One operation of the core: what one cycle word asks for (R58). `d` is the data byte `D[7:0]`. The fields a row does
not use are don't-care bits of the word (R57) and stand in no constructor. -/
inductive Instr
  /-- RESET: every state field to its reset value, no TICK (R179, R213). -/
  | reset
  /-- IDLE: one TICK (R174). -/
  | idle
  /-- `WR_V1.FREQ_LO` at 0x00 (R81). -/
  | wrV1FreqLo (d : Byte)
  /-- `WR_V1.FREQ_HI` at 0x01 (R82). -/
  | wrV1FreqHi (d : Byte)
  /-- `WR_V1.PW_LO` at 0x02 (R83). -/
  | wrV1PwLo (d : Byte)
  /-- `WR_V1.PW_HI` at 0x03 (R84). -/
  | wrV1PwHi (d : Byte)
  /-- `WR_V1.CONTROL` at 0x04 (R85). -/
  | wrV1Control (d : Byte)
  /-- `WR_V1.ATTACK_DECAY` at 0x05 (R111). -/
  | wrV1AttackDecay (d : Byte)
  /-- `WR_V1.SUSTAIN_RELEASE` at 0x06 (R112). -/
  | wrV1SustainRelease (d : Byte)
  /-- `WR_V2.FREQ_LO` at 0x07 (R81). -/
  | wrV2FreqLo (d : Byte)
  /-- `WR_V2.FREQ_HI` at 0x08 (R82). -/
  | wrV2FreqHi (d : Byte)
  /-- `WR_V2.PW_LO` at 0x09 (R83). -/
  | wrV2PwLo (d : Byte)
  /-- `WR_V2.PW_HI` at 0x0A (R84). -/
  | wrV2PwHi (d : Byte)
  /-- `WR_V2.CONTROL` at 0x0B (R85). -/
  | wrV2Control (d : Byte)
  /-- `WR_V2.ATTACK_DECAY` at 0x0C (R111). -/
  | wrV2AttackDecay (d : Byte)
  /-- `WR_V2.SUSTAIN_RELEASE` at 0x0D (R112). -/
  | wrV2SustainRelease (d : Byte)
  /-- `WR_V3.FREQ_LO` at 0x0E (R81). -/
  | wrV3FreqLo (d : Byte)
  /-- `WR_V3.FREQ_HI` at 0x0F (R82). -/
  | wrV3FreqHi (d : Byte)
  /-- `WR_V3.PW_LO` at 0x10 (R83). -/
  | wrV3PwLo (d : Byte)
  /-- `WR_V3.PW_HI` at 0x11 (R84). -/
  | wrV3PwHi (d : Byte)
  /-- `WR_V3.CONTROL` at 0x12 (R85). -/
  | wrV3Control (d : Byte)
  /-- `WR_V3.ATTACK_DECAY` at 0x13 (R111). -/
  | wrV3AttackDecay (d : Byte)
  /-- `WR_V3.SUSTAIN_RELEASE` at 0x14 (R112). -/
  | wrV3SustainRelease (d : Byte)
  /-- `WR_FC_LO` at 0x15 (R141). -/
  | wrFcLo (d : Byte)
  /-- `WR_FC_HI` at 0x16 (R142). -/
  | wrFcHi (d : Byte)
  /-- `WR_RES_FILT` at 0x17 (R143). -/
  | wrResFilt (d : Byte)
  /-- `WR_MODE_VOL` at 0x18 (R144). -/
  | wrModeVol (d : Byte)
  /-- `WR_POTX` at 0x19 (R178). -/
  | wrPotx (d : Byte)
  /-- `WR_POTY` at 0x1A (R178). -/
  | wrPoty (d : Byte)
  /-- `WR_OSC3` at 0x1B (R178). -/
  | wrOsc3 (d : Byte)
  /-- `WR_ENV3` at 0x1C (R178). -/
  | wrEnv3 (d : Byte)
  /-- `WR_UNUSED_1D` at 0x1D (R178). -/
  | wrUnused1D (d : Byte)
  /-- `WR_UNUSED_1E` at 0x1E (R178). -/
  | wrUnused1E (d : Byte)
  /-- `WR_UNUSED_1F` at 0x1F (R178). -/
  | wrUnused1F (d : Byte)
  /-- `RD_V1.FREQ_LO` at 0x00 (R177). -/
  | rdV1FreqLo
  /-- `RD_V1.FREQ_HI` at 0x01 (R177). -/
  | rdV1FreqHi
  /-- `RD_V1.PW_LO` at 0x02 (R177). -/
  | rdV1PwLo
  /-- `RD_V1.PW_HI` at 0x03 (R177). -/
  | rdV1PwHi
  /-- `RD_V1.CONTROL` at 0x04 (R177). -/
  | rdV1Control
  /-- `RD_V1.ATTACK_DECAY` at 0x05 (R177). -/
  | rdV1AttackDecay
  /-- `RD_V1.SUSTAIN_RELEASE` at 0x06 (R177). -/
  | rdV1SustainRelease
  /-- `RD_V2.FREQ_LO` at 0x07 (R177). -/
  | rdV2FreqLo
  /-- `RD_V2.FREQ_HI` at 0x08 (R177). -/
  | rdV2FreqHi
  /-- `RD_V2.PW_LO` at 0x09 (R177). -/
  | rdV2PwLo
  /-- `RD_V2.PW_HI` at 0x0A (R177). -/
  | rdV2PwHi
  /-- `RD_V2.CONTROL` at 0x0B (R177). -/
  | rdV2Control
  /-- `RD_V2.ATTACK_DECAY` at 0x0C (R177). -/
  | rdV2AttackDecay
  /-- `RD_V2.SUSTAIN_RELEASE` at 0x0D (R177). -/
  | rdV2SustainRelease
  /-- `RD_V3.FREQ_LO` at 0x0E (R177). -/
  | rdV3FreqLo
  /-- `RD_V3.FREQ_HI` at 0x0F (R177). -/
  | rdV3FreqHi
  /-- `RD_V3.PW_LO` at 0x10 (R177). -/
  | rdV3PwLo
  /-- `RD_V3.PW_HI` at 0x11 (R177). -/
  | rdV3PwHi
  /-- `RD_V3.CONTROL` at 0x12 (R177). -/
  | rdV3Control
  /-- `RD_V3.ATTACK_DECAY` at 0x13 (R177). -/
  | rdV3AttackDecay
  /-- `RD_V3.SUSTAIN_RELEASE` at 0x14 (R177). -/
  | rdV3SustainRelease
  /-- `RD_FC_LO` at 0x15 (R177). -/
  | rdFcLo
  /-- `RD_FC_HI` at 0x16 (R177). -/
  | rdFcHi
  /-- `RD_RES_FILT` at 0x17 (R177). -/
  | rdResFilt
  /-- `RD_MODE_VOL` at 0x18 (R177). -/
  | rdModeVol
  /-- `RD_POTX` at 0x19 (R176). -/
  | rdPotx
  /-- `RD_POTY` at 0x1A (R176). -/
  | rdPoty
  /-- `RD_OSC3` at 0x1B (R103). -/
  | rdOsc3
  /-- `RD_ENV3` at 0x1C (R126). -/
  | rdEnv3
  /-- `RD_UNUSED_1D` at 0x1D (R177). -/
  | rdUnused1D
  /-- `RD_UNUSED_1E` at 0x1E (R177). -/
  | rdUnused1E
  /-- `RD_UNUSED_1F` at 0x1F (R177). -/
  | rdUnused1F
  deriving DecidableEq, Repr

/-- A register operand of a script line: "a number 0..31 or a name" (R76). -/
inductive RegOperand
  | number (n : Nat)
  | name (r : Reg)
  deriving DecidableEq, Repr

/-- The script lines of R76 with the pseudo-operation `T n` of R77. -/
inductive ScriptLine
  /-- `RST`. -/
  | rst
  /-- `T n`: n idle cycles, n = 1 for the plain `T`. -/
  | t (n : Nat)
  /-- `W <reg>, <byte>`. -/
  | w (reg : RegOperand) (byte : Nat)
  /-- `R <reg>`. -/
  | r (reg : RegOperand)
  deriving DecidableEq, Repr

end Sys2Proof
end

