-- ==== Sys2Proof/Decode.lean ====
section
/-! DEFINITION. Decoding a cycle word (R58), encoding an operation (R57, R58), the opcode table's rows (R78), the
register map (R61) and the words of a script (R76, R77). -/

namespace Sys2Proof

/-! ## The register map -/

/-- The address of a register (R61). -/
def Reg.addr : Reg → Addr
  | .v1FreqLo => 0x00#5
  | .v1FreqHi => 0x01#5
  | .v1PwLo => 0x02#5
  | .v1PwHi => 0x03#5
  | .v1Control => 0x04#5
  | .v1AttackDecay => 0x05#5
  | .v1SustainRelease => 0x06#5
  | .v2FreqLo => 0x07#5
  | .v2FreqHi => 0x08#5
  | .v2PwLo => 0x09#5
  | .v2PwHi => 0x0A#5
  | .v2Control => 0x0B#5
  | .v2AttackDecay => 0x0C#5
  | .v2SustainRelease => 0x0D#5
  | .v3FreqLo => 0x0E#5
  | .v3FreqHi => 0x0F#5
  | .v3PwLo => 0x10#5
  | .v3PwHi => 0x11#5
  | .v3Control => 0x12#5
  | .v3AttackDecay => 0x13#5
  | .v3SustainRelease => 0x14#5
  | .fcLo => 0x15#5
  | .fcHi => 0x16#5
  | .resFilt => 0x17#5
  | .modeVol => 0x18#5
  | .potx => 0x19#5
  | .poty => 0x1A#5
  | .osc3 => 0x1B#5
  | .env3 => 0x1C#5
  | .unused1D => 0x1D#5
  | .unused1E => 0x1E#5
  | .unused1F => 0x1F#5

/-- The register at an address (R61, R62). The last arm is address 31 only, since an address has 5 bits. -/
def Reg.ofAddr (a : Addr) : Reg :=
  match a.toNat with
  | 0 => .v1FreqLo
  | 1 => .v1FreqHi
  | 2 => .v1PwLo
  | 3 => .v1PwHi
  | 4 => .v1Control
  | 5 => .v1AttackDecay
  | 6 => .v1SustainRelease
  | 7 => .v2FreqLo
  | 8 => .v2FreqHi
  | 9 => .v2PwLo
  | 10 => .v2PwHi
  | 11 => .v2Control
  | 12 => .v2AttackDecay
  | 13 => .v2SustainRelease
  | 14 => .v3FreqLo
  | 15 => .v3FreqHi
  | 16 => .v3PwLo
  | 17 => .v3PwHi
  | 18 => .v3Control
  | 19 => .v3AttackDecay
  | 20 => .v3SustainRelease
  | 21 => .fcLo
  | 22 => .fcHi
  | 23 => .resFilt
  | 24 => .modeVol
  | 25 => .potx
  | 26 => .poty
  | 27 => .osc3
  | 28 => .env3
  | 29 => .unused1D
  | 30 => .unused1E
  | _ => .unused1F

/-- A register's name in scripts and in the opcode table's mnemonics (R76, R78). -/
def Reg.name : Reg → String
  | .v1FreqLo => "V1.FREQ_LO"
  | .v1FreqHi => "V1.FREQ_HI"
  | .v1PwLo => "V1.PW_LO"
  | .v1PwHi => "V1.PW_HI"
  | .v1Control => "V1.CONTROL"
  | .v1AttackDecay => "V1.ATTACK_DECAY"
  | .v1SustainRelease => "V1.SUSTAIN_RELEASE"
  | .v2FreqLo => "V2.FREQ_LO"
  | .v2FreqHi => "V2.FREQ_HI"
  | .v2PwLo => "V2.PW_LO"
  | .v2PwHi => "V2.PW_HI"
  | .v2Control => "V2.CONTROL"
  | .v2AttackDecay => "V2.ATTACK_DECAY"
  | .v2SustainRelease => "V2.SUSTAIN_RELEASE"
  | .v3FreqLo => "V3.FREQ_LO"
  | .v3FreqHi => "V3.FREQ_HI"
  | .v3PwLo => "V3.PW_LO"
  | .v3PwHi => "V3.PW_HI"
  | .v3Control => "V3.CONTROL"
  | .v3AttackDecay => "V3.ATTACK_DECAY"
  | .v3SustainRelease => "V3.SUSTAIN_RELEASE"
  | .fcLo => "FC_LO"
  | .fcHi => "FC_HI"
  | .resFilt => "RES_FILT"
  | .modeVol => "MODE_VOL"
  | .potx => "POTX"
  | .poty => "POTY"
  | .osc3 => "OSC3"
  | .env3 => "ENV3"
  | .unused1D => "UNUSED_1D"
  | .unused1E => "UNUSED_1E"
  | .unused1F => "UNUSED_1F"

/-- The access a register gives: "W", "R" or none (R41, R61). -/
inductive Access
  | writeOnly
  | readOnly
  | noFunction
  deriving DecidableEq, Repr

/-- Addresses 0x00 to 0x18 are write-only, 0x19 to 0x1C read-only, 0x1D to 0x1F have no function (R41). -/
def Reg.access (r : Reg) : Access :=
  if r.addr.toNat ≤ 24 then .writeOnly else if r.addr.toNat ≤ 28 then .readOnly else .noFunction

/-! ## Decoding -/

/-- The fields of the cycle word (R57). -/
def resField (w : CycleWord) : Bool := w.getLsbD 15
/-- `CS`, bit 14 (R57). -/
def csField (w : CycleWord) : Bool := w.getLsbD 14
/-- `RW`, bit 13: 1 = read (R57). -/
def rwField (w : CycleWord) : Bool := w.getLsbD 13
/-- `A[4:0]`, bits 12:8 (R57). -/
def addrField (w : CycleWord) : Addr := w.extractLsb' 8 5
/-- `D[7:0]`, bits 7:0 (R57). -/
def dataField (w : CycleWord) : Byte := w.extractLsb' 0 8

/-- The write operation at a register (R58, R61). -/
def decodeWr (r : Reg) (d : Byte) : Instr :=
  match r with
  | .v1FreqLo => .wrV1FreqLo d
  | .v1FreqHi => .wrV1FreqHi d
  | .v1PwLo => .wrV1PwLo d
  | .v1PwHi => .wrV1PwHi d
  | .v1Control => .wrV1Control d
  | .v1AttackDecay => .wrV1AttackDecay d
  | .v1SustainRelease => .wrV1SustainRelease d
  | .v2FreqLo => .wrV2FreqLo d
  | .v2FreqHi => .wrV2FreqHi d
  | .v2PwLo => .wrV2PwLo d
  | .v2PwHi => .wrV2PwHi d
  | .v2Control => .wrV2Control d
  | .v2AttackDecay => .wrV2AttackDecay d
  | .v2SustainRelease => .wrV2SustainRelease d
  | .v3FreqLo => .wrV3FreqLo d
  | .v3FreqHi => .wrV3FreqHi d
  | .v3PwLo => .wrV3PwLo d
  | .v3PwHi => .wrV3PwHi d
  | .v3Control => .wrV3Control d
  | .v3AttackDecay => .wrV3AttackDecay d
  | .v3SustainRelease => .wrV3SustainRelease d
  | .fcLo => .wrFcLo d
  | .fcHi => .wrFcHi d
  | .resFilt => .wrResFilt d
  | .modeVol => .wrModeVol d
  | .potx => .wrPotx d
  | .poty => .wrPoty d
  | .osc3 => .wrOsc3 d
  | .env3 => .wrEnv3 d
  | .unused1D => .wrUnused1D d
  | .unused1E => .wrUnused1E d
  | .unused1F => .wrUnused1F d

/-- The read operation at a register (R58, R61). -/
def decodeRd (r : Reg) : Instr :=
  match r with
  | .v1FreqLo => .rdV1FreqLo
  | .v1FreqHi => .rdV1FreqHi
  | .v1PwLo => .rdV1PwLo
  | .v1PwHi => .rdV1PwHi
  | .v1Control => .rdV1Control
  | .v1AttackDecay => .rdV1AttackDecay
  | .v1SustainRelease => .rdV1SustainRelease
  | .v2FreqLo => .rdV2FreqLo
  | .v2FreqHi => .rdV2FreqHi
  | .v2PwLo => .rdV2PwLo
  | .v2PwHi => .rdV2PwHi
  | .v2Control => .rdV2Control
  | .v2AttackDecay => .rdV2AttackDecay
  | .v2SustainRelease => .rdV2SustainRelease
  | .v3FreqLo => .rdV3FreqLo
  | .v3FreqHi => .rdV3FreqHi
  | .v3PwLo => .rdV3PwLo
  | .v3PwHi => .rdV3PwHi
  | .v3Control => .rdV3Control
  | .v3AttackDecay => .rdV3AttackDecay
  | .v3SustainRelease => .rdV3SustainRelease
  | .fcLo => .rdFcLo
  | .fcHi => .rdFcHi
  | .resFilt => .rdResFilt
  | .modeVol => .rdModeVol
  | .potx => .rdPotx
  | .poty => .rdPoty
  | .osc3 => .rdOsc3
  | .env3 => .rdEnv3
  | .unused1D => .rdUnused1D
  | .unused1E => .rdUnused1E
  | .unused1F => .rdUnused1F

/-- R58: the cases are tested in the order RES, CS, RW, and "no value is illegal", so no word is refused. -/
def decode (w : CycleWord) : Instr :=
  if resField w then .reset
  else if !csField w then .idle
  else if !rwField w then decodeWr (Reg.ofAddr (addrField w)) (dataField w)
  else decodeRd (Reg.ofAddr (addrField w))

/-- The decoder on a word numbered as spec/opcode_table.json numbers it. Every operation is one 16-bit word (R57, R75),
so a longer word with a bit set above bit 15 is no operation of this core. -/
def decodeTableWord (nbits w : Nat) : Option Instr :=
  if w % 2 ^ nbits < 65536 then some (decode (BitVec.ofNat 16 (w % 2 ^ nbits))) else none

/-! ## Encoding -/

/-- The WR cycle word at an address: RES = 0, CS = 1, RW = 0 (R57, R58). -/
def wrWord (a : Addr) (d : Byte) : CycleWord := 0b010#3 ++ a ++ d

/-- The canonical RD cycle word at an address: RES = 0, CS = 1, RW = 1, D = 0 (R57, R58). -/
def rdWord (a : Addr) : CycleWord := 0b011#3 ++ a ++ 0#8

/-- The canonical cycle word of an operation: don't-care fields "are written as 0 in canonical encodings" (R57). -/
def encode : Instr → CycleWord
  | .reset => 0x8000#16
  | .idle => 0x0000#16
  | .wrV1FreqLo d => wrWord 0x00#5 d
  | .wrV1FreqHi d => wrWord 0x01#5 d
  | .wrV1PwLo d => wrWord 0x02#5 d
  | .wrV1PwHi d => wrWord 0x03#5 d
  | .wrV1Control d => wrWord 0x04#5 d
  | .wrV1AttackDecay d => wrWord 0x05#5 d
  | .wrV1SustainRelease d => wrWord 0x06#5 d
  | .wrV2FreqLo d => wrWord 0x07#5 d
  | .wrV2FreqHi d => wrWord 0x08#5 d
  | .wrV2PwLo d => wrWord 0x09#5 d
  | .wrV2PwHi d => wrWord 0x0A#5 d
  | .wrV2Control d => wrWord 0x0B#5 d
  | .wrV2AttackDecay d => wrWord 0x0C#5 d
  | .wrV2SustainRelease d => wrWord 0x0D#5 d
  | .wrV3FreqLo d => wrWord 0x0E#5 d
  | .wrV3FreqHi d => wrWord 0x0F#5 d
  | .wrV3PwLo d => wrWord 0x10#5 d
  | .wrV3PwHi d => wrWord 0x11#5 d
  | .wrV3Control d => wrWord 0x12#5 d
  | .wrV3AttackDecay d => wrWord 0x13#5 d
  | .wrV3SustainRelease d => wrWord 0x14#5 d
  | .wrFcLo d => wrWord 0x15#5 d
  | .wrFcHi d => wrWord 0x16#5 d
  | .wrResFilt d => wrWord 0x17#5 d
  | .wrModeVol d => wrWord 0x18#5 d
  | .wrPotx d => wrWord 0x19#5 d
  | .wrPoty d => wrWord 0x1A#5 d
  | .wrOsc3 d => wrWord 0x1B#5 d
  | .wrEnv3 d => wrWord 0x1C#5 d
  | .wrUnused1D d => wrWord 0x1D#5 d
  | .wrUnused1E d => wrWord 0x1E#5 d
  | .wrUnused1F d => wrWord 0x1F#5 d
  | .rdV1FreqLo => rdWord 0x00#5
  | .rdV1FreqHi => rdWord 0x01#5
  | .rdV1PwLo => rdWord 0x02#5
  | .rdV1PwHi => rdWord 0x03#5
  | .rdV1Control => rdWord 0x04#5
  | .rdV1AttackDecay => rdWord 0x05#5
  | .rdV1SustainRelease => rdWord 0x06#5
  | .rdV2FreqLo => rdWord 0x07#5
  | .rdV2FreqHi => rdWord 0x08#5
  | .rdV2PwLo => rdWord 0x09#5
  | .rdV2PwHi => rdWord 0x0A#5
  | .rdV2Control => rdWord 0x0B#5
  | .rdV2AttackDecay => rdWord 0x0C#5
  | .rdV2SustainRelease => rdWord 0x0D#5
  | .rdV3FreqLo => rdWord 0x0E#5
  | .rdV3FreqHi => rdWord 0x0F#5
  | .rdV3PwLo => rdWord 0x10#5
  | .rdV3PwHi => rdWord 0x11#5
  | .rdV3Control => rdWord 0x12#5
  | .rdV3AttackDecay => rdWord 0x13#5
  | .rdV3SustainRelease => rdWord 0x14#5
  | .rdFcLo => rdWord 0x15#5
  | .rdFcHi => rdWord 0x16#5
  | .rdResFilt => rdWord 0x17#5
  | .rdModeVol => rdWord 0x18#5
  | .rdPotx => rdWord 0x19#5
  | .rdPoty => rdWord 0x1A#5
  | .rdOsc3 => rdWord 0x1B#5
  | .rdEnv3 => rdWord 0x1C#5
  | .rdUnused1D => rdWord 0x1D#5
  | .rdUnused1E => rdWord 0x1E#5
  | .rdUnused1F => rdWord 0x1F#5

/-! ## The opcode table (R78) -/

/-- One row of opcode_table.json: a word `w` belongs to the row when `w &&& mask = pattern` (R58). -/
structure OpcodeRow where
  mnemonic : String
  mask : CycleWord
  pattern : CycleWord
  deriving DecidableEq, Repr

/-- The word belongs to the row (R58: `(w & mask) = match`). -/
def OpcodeRow.covers (r : OpcodeRow) (w : CycleWord) : Bool := w &&& r.mask == r.pattern

/-- The rows without a bus operation. -/
def rowsCycle : List OpcodeRow :=
  [⟨"RESET", 0x8000#16, 0x8000#16⟩,
   ⟨"IDLE", 0xc000#16, 0x0000#16⟩]

/-- The WR rows of voice 1. -/
def rowsWrV1 : List OpcodeRow :=
  [⟨"WR_V1.FREQ_LO", 0xff00#16, 0x4000#16⟩,
   ⟨"WR_V1.FREQ_HI", 0xff00#16, 0x4100#16⟩,
   ⟨"WR_V1.PW_LO", 0xff00#16, 0x4200#16⟩,
   ⟨"WR_V1.PW_HI", 0xff00#16, 0x4300#16⟩,
   ⟨"WR_V1.CONTROL", 0xff00#16, 0x4400#16⟩,
   ⟨"WR_V1.ATTACK_DECAY", 0xff00#16, 0x4500#16⟩,
   ⟨"WR_V1.SUSTAIN_RELEASE", 0xff00#16, 0x4600#16⟩]

/-- The RD rows of voice 1. -/
def rowsRdV1 : List OpcodeRow :=
  [⟨"RD_V1.FREQ_LO", 0xff00#16, 0x6000#16⟩,
   ⟨"RD_V1.FREQ_HI", 0xff00#16, 0x6100#16⟩,
   ⟨"RD_V1.PW_LO", 0xff00#16, 0x6200#16⟩,
   ⟨"RD_V1.PW_HI", 0xff00#16, 0x6300#16⟩,
   ⟨"RD_V1.CONTROL", 0xff00#16, 0x6400#16⟩,
   ⟨"RD_V1.ATTACK_DECAY", 0xff00#16, 0x6500#16⟩,
   ⟨"RD_V1.SUSTAIN_RELEASE", 0xff00#16, 0x6600#16⟩]

/-- The WR rows of voice 2. -/
def rowsWrV2 : List OpcodeRow :=
  [⟨"WR_V2.FREQ_LO", 0xff00#16, 0x4700#16⟩,
   ⟨"WR_V2.FREQ_HI", 0xff00#16, 0x4800#16⟩,
   ⟨"WR_V2.PW_LO", 0xff00#16, 0x4900#16⟩,
   ⟨"WR_V2.PW_HI", 0xff00#16, 0x4A00#16⟩,
   ⟨"WR_V2.CONTROL", 0xff00#16, 0x4B00#16⟩,
   ⟨"WR_V2.ATTACK_DECAY", 0xff00#16, 0x4C00#16⟩,
   ⟨"WR_V2.SUSTAIN_RELEASE", 0xff00#16, 0x4D00#16⟩]

/-- The RD rows of voice 2. -/
def rowsRdV2 : List OpcodeRow :=
  [⟨"RD_V2.FREQ_LO", 0xff00#16, 0x6700#16⟩,
   ⟨"RD_V2.FREQ_HI", 0xff00#16, 0x6800#16⟩,
   ⟨"RD_V2.PW_LO", 0xff00#16, 0x6900#16⟩,
   ⟨"RD_V2.PW_HI", 0xff00#16, 0x6A00#16⟩,
   ⟨"RD_V2.CONTROL", 0xff00#16, 0x6B00#16⟩,
   ⟨"RD_V2.ATTACK_DECAY", 0xff00#16, 0x6C00#16⟩,
   ⟨"RD_V2.SUSTAIN_RELEASE", 0xff00#16, 0x6D00#16⟩]

/-- The WR rows of voice 3. -/
def rowsWrV3 : List OpcodeRow :=
  [⟨"WR_V3.FREQ_LO", 0xff00#16, 0x4E00#16⟩,
   ⟨"WR_V3.FREQ_HI", 0xff00#16, 0x4F00#16⟩,
   ⟨"WR_V3.PW_LO", 0xff00#16, 0x5000#16⟩,
   ⟨"WR_V3.PW_HI", 0xff00#16, 0x5100#16⟩,
   ⟨"WR_V3.CONTROL", 0xff00#16, 0x5200#16⟩,
   ⟨"WR_V3.ATTACK_DECAY", 0xff00#16, 0x5300#16⟩,
   ⟨"WR_V3.SUSTAIN_RELEASE", 0xff00#16, 0x5400#16⟩]

/-- The RD rows of voice 3. -/
def rowsRdV3 : List OpcodeRow :=
  [⟨"RD_V3.FREQ_LO", 0xff00#16, 0x6E00#16⟩,
   ⟨"RD_V3.FREQ_HI", 0xff00#16, 0x6F00#16⟩,
   ⟨"RD_V3.PW_LO", 0xff00#16, 0x7000#16⟩,
   ⟨"RD_V3.PW_HI", 0xff00#16, 0x7100#16⟩,
   ⟨"RD_V3.CONTROL", 0xff00#16, 0x7200#16⟩,
   ⟨"RD_V3.ATTACK_DECAY", 0xff00#16, 0x7300#16⟩,
   ⟨"RD_V3.SUSTAIN_RELEASE", 0xff00#16, 0x7400#16⟩]

/-- The WR rows of the filter. -/
def rowsWrFilter : List OpcodeRow :=
  [⟨"WR_FC_LO", 0xff00#16, 0x5500#16⟩,
   ⟨"WR_FC_HI", 0xff00#16, 0x5600#16⟩,
   ⟨"WR_RES_FILT", 0xff00#16, 0x5700#16⟩,
   ⟨"WR_MODE_VOL", 0xff00#16, 0x5800#16⟩]

/-- The RD rows of the filter. -/
def rowsRdFilter : List OpcodeRow :=
  [⟨"RD_FC_LO", 0xff00#16, 0x7500#16⟩,
   ⟨"RD_FC_HI", 0xff00#16, 0x7600#16⟩,
   ⟨"RD_RES_FILT", 0xff00#16, 0x7700#16⟩,
   ⟨"RD_MODE_VOL", 0xff00#16, 0x7800#16⟩]

/-- The WR rows of the read-only and unused addresses. -/
def rowsWrHigh : List OpcodeRow :=
  [⟨"WR_POTX", 0xff00#16, 0x5900#16⟩,
   ⟨"WR_POTY", 0xff00#16, 0x5A00#16⟩,
   ⟨"WR_OSC3", 0xff00#16, 0x5B00#16⟩,
   ⟨"WR_ENV3", 0xff00#16, 0x5C00#16⟩,
   ⟨"WR_UNUSED_1D", 0xff00#16, 0x5D00#16⟩,
   ⟨"WR_UNUSED_1E", 0xff00#16, 0x5E00#16⟩,
   ⟨"WR_UNUSED_1F", 0xff00#16, 0x5F00#16⟩]

/-- The RD rows of the read-only and unused addresses. -/
def rowsRdHigh : List OpcodeRow :=
  [⟨"RD_POTX", 0xff00#16, 0x7900#16⟩,
   ⟨"RD_POTY", 0xff00#16, 0x7A00#16⟩,
   ⟨"RD_OSC3", 0xff00#16, 0x7B00#16⟩,
   ⟨"RD_ENV3", 0xff00#16, 0x7C00#16⟩,
   ⟨"RD_UNUSED_1D", 0xff00#16, 0x7D00#16⟩,
   ⟨"RD_UNUSED_1E", 0xff00#16, 0x7E00#16⟩,
   ⟨"RD_UNUSED_1F", 0xff00#16, 0x7F00#16⟩]

/-- All 66 rows. -/
def opcodeTable : List OpcodeRow :=
  rowsCycle ++ rowsWrV1 ++ rowsWrV2 ++ rowsWrV3 ++ rowsWrFilter ++ rowsWrHigh
    ++ rowsRdV1 ++ rowsRdV2 ++ rowsRdV3 ++ rowsRdFilter ++ rowsRdHigh

/-- An operation's row mnemonic (R78). -/
def Instr.mnemonic : Instr → String
  | .reset => "RESET"
  | .idle => "IDLE"
  | .wrV1FreqLo _ => "WR_V1.FREQ_LO"
  | .wrV1FreqHi _ => "WR_V1.FREQ_HI"
  | .wrV1PwLo _ => "WR_V1.PW_LO"
  | .wrV1PwHi _ => "WR_V1.PW_HI"
  | .wrV1Control _ => "WR_V1.CONTROL"
  | .wrV1AttackDecay _ => "WR_V1.ATTACK_DECAY"
  | .wrV1SustainRelease _ => "WR_V1.SUSTAIN_RELEASE"
  | .wrV2FreqLo _ => "WR_V2.FREQ_LO"
  | .wrV2FreqHi _ => "WR_V2.FREQ_HI"
  | .wrV2PwLo _ => "WR_V2.PW_LO"
  | .wrV2PwHi _ => "WR_V2.PW_HI"
  | .wrV2Control _ => "WR_V2.CONTROL"
  | .wrV2AttackDecay _ => "WR_V2.ATTACK_DECAY"
  | .wrV2SustainRelease _ => "WR_V2.SUSTAIN_RELEASE"
  | .wrV3FreqLo _ => "WR_V3.FREQ_LO"
  | .wrV3FreqHi _ => "WR_V3.FREQ_HI"
  | .wrV3PwLo _ => "WR_V3.PW_LO"
  | .wrV3PwHi _ => "WR_V3.PW_HI"
  | .wrV3Control _ => "WR_V3.CONTROL"
  | .wrV3AttackDecay _ => "WR_V3.ATTACK_DECAY"
  | .wrV3SustainRelease _ => "WR_V3.SUSTAIN_RELEASE"
  | .wrFcLo _ => "WR_FC_LO"
  | .wrFcHi _ => "WR_FC_HI"
  | .wrResFilt _ => "WR_RES_FILT"
  | .wrModeVol _ => "WR_MODE_VOL"
  | .wrPotx _ => "WR_POTX"
  | .wrPoty _ => "WR_POTY"
  | .wrOsc3 _ => "WR_OSC3"
  | .wrEnv3 _ => "WR_ENV3"
  | .wrUnused1D _ => "WR_UNUSED_1D"
  | .wrUnused1E _ => "WR_UNUSED_1E"
  | .wrUnused1F _ => "WR_UNUSED_1F"
  | .rdV1FreqLo => "RD_V1.FREQ_LO"
  | .rdV1FreqHi => "RD_V1.FREQ_HI"
  | .rdV1PwLo => "RD_V1.PW_LO"
  | .rdV1PwHi => "RD_V1.PW_HI"
  | .rdV1Control => "RD_V1.CONTROL"
  | .rdV1AttackDecay => "RD_V1.ATTACK_DECAY"
  | .rdV1SustainRelease => "RD_V1.SUSTAIN_RELEASE"
  | .rdV2FreqLo => "RD_V2.FREQ_LO"
  | .rdV2FreqHi => "RD_V2.FREQ_HI"
  | .rdV2PwLo => "RD_V2.PW_LO"
  | .rdV2PwHi => "RD_V2.PW_HI"
  | .rdV2Control => "RD_V2.CONTROL"
  | .rdV2AttackDecay => "RD_V2.ATTACK_DECAY"
  | .rdV2SustainRelease => "RD_V2.SUSTAIN_RELEASE"
  | .rdV3FreqLo => "RD_V3.FREQ_LO"
  | .rdV3FreqHi => "RD_V3.FREQ_HI"
  | .rdV3PwLo => "RD_V3.PW_LO"
  | .rdV3PwHi => "RD_V3.PW_HI"
  | .rdV3Control => "RD_V3.CONTROL"
  | .rdV3AttackDecay => "RD_V3.ATTACK_DECAY"
  | .rdV3SustainRelease => "RD_V3.SUSTAIN_RELEASE"
  | .rdFcLo => "RD_FC_LO"
  | .rdFcHi => "RD_FC_HI"
  | .rdResFilt => "RD_RES_FILT"
  | .rdModeVol => "RD_MODE_VOL"
  | .rdPotx => "RD_POTX"
  | .rdPoty => "RD_POTY"
  | .rdOsc3 => "RD_OSC3"
  | .rdEnv3 => "RD_ENV3"
  | .rdUnused1D => "RD_UNUSED_1D"
  | .rdUnused1E => "RD_UNUSED_1E"
  | .rdUnused1F => "RD_UNUSED_1F"

/-! ## Scripts (R76, R77) -/

/-- The address a register operand names (R76). -/
def RegOperand.addr : RegOperand → Addr
  | .number n => BitVec.ofNat 5 n
  | .name r => r.addr

/-- The cycle words of one script line: `RST` is 0x8000, `T n` is n idle words, `W` and `R` one word each (R76, R77). -/
def ScriptLine.words : ScriptLine → List CycleWord
  | .rst => [0x8000#16]
  | .t n => List.replicate n 0x0000#16
  | .w reg byte => [wrWord reg.addr (BitVec.ofNat 8 byte)]
  | .r reg => [rdWord reg.addr]

/-- The cycle words of a script, line by line (R76). -/
def scriptWords (ls : List ScriptLine) : List CycleWord := ls.flatMap ScriptLine.words

end Sys2Proof
end

