-- ==== Sys2Proof/Config.lean ====
section
/-! DEFINITION. What one instance of the core fixes and the spec leaves open: the chip variant's names (R1, R9)
and the table parameters of R8, each an opaque constant with the domain and range R8 gives it (log entries 5, 6). -/

namespace Sys2Proof

/-- `CHIP_MODEL` (R1, R9): "selects DAC tables and filter parameterization" and nothing else (R185). -/
inductive ChipModel
  | mos6581
  | mos8580
  deriving DecidableEq, Repr

/-- The table parameters "the model takes as arguments" (R8). The field types are R8's domains and ranges. -/
structure Tables where
  /-- `wave_ST`, one OSC3 byte for each 12-bit index (R101). -/
  waveST : ChipModel → BitVec 12 → Byte
  /-- `wave_P_T` (R101). -/
  wavePT : ChipModel → BitVec 12 → Byte
  /-- `wave_PS_` (R101). -/
  wavePS : ChipModel → BitVec 12 → Byte
  /-- `wave_PST` (R101). -/
  wavePST : ChipModel → BitVec 12 → Byte
  /-- `wave_dac` of the MOS6581; the MOS8580's is the identity (R133). -/
  waveDac6581 : BitVec 12 → BitVec 12
  /-- `env_dac` of the MOS6581; the MOS8580's is the identity (R134). -/
  envDac6581 : Byte → Byte
  /-- `cutoff_dac`: 0 to 2^20 (R8, R148). -/
  cutoffDac : ChipModel → BitVec 11 → Fin 1048577
  /-- `resonance_table` less one: the table's range is 1 to 4095 (R8, R148). -/
  resonanceLessOne : ChipModel → BitVec 4 → Fin 4095

/-- `wave_ST`: R8 names it and gives no contents (U5). DESIGN CHOICE, log entry 5: an opaque constant. -/
opaque Config.waveST : ChipModel → BitVec 12 → Byte
/-- `wave_P_T` (R8, U5), log entry 5. -/
opaque Config.wavePT : ChipModel → BitVec 12 → Byte
/-- `wave_PS_` (R8, U5), log entry 5. -/
opaque Config.wavePS : ChipModel → BitVec 12 → Byte
/-- `wave_PST` (R8, U5), log entry 5. -/
opaque Config.wavePST : ChipModel → BitVec 12 → Byte
/-- `wave_dac` of the MOS6581 (R133, U6), log entry 5. -/
opaque Config.waveDac6581 : BitVec 12 → BitVec 12
/-- `env_dac` of the MOS6581 (R134, U6), log entry 5. -/
opaque Config.envDac6581 : Byte → Byte
/-- `cutoff_dac` (R148, U7), log entry 5. -/
opaque Config.cutoffDac : ChipModel → BitVec 11 → Fin 1048577
/-- `resonance_table` less one (R148, U7), log entries 5 and 6. -/
opaque Config.resonanceLessOne : ChipModel → BitVec 4 → Fin 4095

/-- The tables of this instance of the core. -/
def Config.tables : Tables where
  waveST := Config.waveST
  wavePT := Config.wavePT
  wavePS := Config.wavePS
  wavePST := Config.wavePST
  waveDac6581 := Config.waveDac6581
  envDac6581 := Config.envDac6581
  cutoffDac := Config.cutoffDac
  resonanceLessOne := Config.resonanceLessOne

end Sys2Proof
end

