-- ==== Sys2Proof/Machine/State.lean ====
section
/-! DEFINITION. The state of the machine: every field of R13 to R27, with the straps and inputs a step depends on (R9,
R28) and the two fields of the model's own that INVENTORY.md lists (`pending`, `dataOut`); and the state after reset. -/

namespace Sys2Proof.Machine

/-- The three voices (R13). -/
inductive VoiceId
  | v1
  | v2
  | v3
  deriving DecidableEq, Repr

/-- The ADSR states (R23); they have no architected encoding (R79). -/
inductive EnvState
  | attack
  | decaySustain
  | release
  deriving DecidableEq, Repr

/-- One waveform generator: the register fields of R14 and the datapath registers of R15 to R17. -/
structure Osc where
  /-- 16-bit frequency (R14). -/
  freq : BitVec 16
  /-- 12-bit pulse width (R14). -/
  pw : BitVec 12
  /-- 4-bit waveform selector: noise, pulse, sawtooth, triangle from bit 3 down (R14, R72). -/
  waveform : BitVec 4
  /-- TEST flag (R14). -/
  test : Bool
  /-- Ring-modulation flag (R14). -/
  ringMod : Bool
  /-- Hard-sync flag (R14). -/
  sync : Bool
  /-- 24-bit phase accumulator (R15). -/
  acc : BitVec 24
  /-- 23-bit noise shift register (R16). -/
  lfsr : BitVec 23
  /-- Set by phase A of a TICK when bit 23 of `acc` rose in it (R17). -/
  msbRising : Bool
  deriving DecidableEq, Repr

/-- One envelope generator: the register fields of R19 and the counters of R20 to R23. -/
structure Env where
  /-- Rate index in ATTACK (R19). -/
  attack : BitVec 4
  /-- Rate index in DECAY_SUSTAIN (R19). -/
  decay : BitVec 4
  /-- Index into `sustain_level` (R19). -/
  sustain : BitVec 4
  /-- Rate index in RELEASE (R19). -/
  release : BitVec 4
  /-- The gate bit last written to CONTROL (R19). -/
  gate : Bool
  /-- 8-bit envelope counter (R20). -/
  envelopeCounter : BitVec 8
  /-- 15-bit free-running rate counter (R21). -/
  rateCounter : BitVec 15
  /-- 5-bit exponential sub-counter (R22). -/
  expCounter : BitVec 5
  /-- ADSR state (R23). -/
  envState : EnvState
  deriving DecidableEq, Repr

/-- One voice: one waveform generator and one envelope generator (R13). -/
structure Voice where
  osc : Osc
  env : Env
  deriving DecidableEq, Repr

/-- The filter: the register fields of R24 and the three integrator states of R25. The states are unbounded integers,
as in the rules (R25, R154); log entry 7 says what that means for 32-bit hardware. -/
structure Filter where
  /-- 11-bit cutoff (R24). -/
  fc : BitVec 11
  /-- 4-bit resonance (R24). -/
  res : BitVec 4
  /-- Routing mask: voice 1, voice 2, voice 3, external input from bit 0 up (R24, R69). -/
  filt : BitVec 4
  /-- The 3OFF bit (R24). -/
  voice3off : Bool
  /-- High-pass tap to the output (R24). -/
  hp : Bool
  /-- Band-pass tap to the output (R24). -/
  bp : Bool
  /-- Low-pass tap to the output (R24). -/
  lp : Bool
  /-- 4-bit master volume (R24). -/
  vol : BitVec 4
  /-- `Vhp` (R25). -/
  vhp : Int
  /-- `Vbp` (R25). -/
  vbp : Int
  /-- `Vlp` (R25). -/
  vlp : Int
  deriving DecidableEq, Repr

/-- The external filter's two integer states (R26). -/
structure ExtFilter where
  /-- `Vlp_ext` (R26). -/
  vlpExt : Int
  /-- `Vhp_ext` (R26). -/
  vhpExt : Int
  deriving DecidableEq, Repr

/-- The straps: configuration inputs "constant during a run" that no register write changes (R9). -/
structure Straps where
  chipModel : ChipModel
  filterEn : Bool
  extfiltEn : Bool
  mute1 : Bool
  mute2 : Bool
  mute3 : Bool
  deriving DecidableEq, Repr

/-- The inputs the host supplies beside the cycle word (R28). `extIn` is read as two's complement. -/
structure Inputs where
  extIn : BitVec 20
  potX : Byte
  potY : Byte
  deriving DecidableEq, Repr

/-- What the host presents on the pins in one clock cycle: the cycle word and that cycle's inputs (R28, R57, R188). -/
structure CyclePins where
  word : CycleWord
  inputs : Inputs
  deriving DecidableEq, Repr

/-- The machine: the core's fields (R13 to R27), the straps and inputs of R9 and R28, the cycles the host has yet to
present (log entry 1), and the byte on DATA_OUT (R29, R59; log entry 3). -/
structure State where
  voice1 : Voice
  voice2 : Voice
  voice3 : Voice
  filter : Filter
  ext : ExtFilter
  /-- The byte most recently written by any register write (R27). -/
  busValue : Byte
  straps : Straps
  /-- The inputs as they stand in the present cycle (R28). -/
  inputs : Inputs
  /-- The cycles the host will present, next first; with none left it presents the defaults of R28. -/
  pending : List CyclePins
  /-- The byte on DATA_OUT if the last cycle was a RD cycle, none if DATA_OUT was not valid in it (R59). -/
  dataOut : Option Byte
  deriving DecidableEq, Repr

/-- Why the machine may stop: never. "The complete list of exception causes is empty" (R200), so this type has no
constructor and no step can fault. -/
inductive Fault : Type
  deriving DecidableEq, Repr

/-- Why a step may have no meaning. -/
inductive Refusal
  /-- Raised only by an arm of `exec` whose instruction has no meaning yet; safe (the machine stops where the core would
  go on). No arm raises it now. -/
  | notModelled (mnemonic : String)
  deriving DecidableEq, Repr

/-! ## Reset -/

/-- A waveform generator after RESET (R34, R213). -/
def Osc.atReset : Osc where
  freq := 0
  pw := 0
  waveform := 0
  test := false
  ringMod := false
  sync := false
  acc := 0
  lfsr := 0x7FFFF8#23
  msbRising := false

/-- An envelope generator after RESET (R34, R213). -/
def Env.atReset : Env where
  attack := 0
  decay := 0
  sustain := 0
  release := 0
  gate := false
  envelopeCounter := 0
  rateCounter := 0
  expCounter := 0
  envState := .release

/-- A voice after RESET (R34, R213). -/
def Voice.atReset : Voice where
  osc := Osc.atReset
  env := Env.atReset

/-- The filter after RESET (R34, R213). -/
def Filter.atReset : Filter where
  fc := 0
  res := 0
  filt := 0
  voice3off := false
  hp := false
  bp := false
  lp := false
  vol := 0
  vhp := 0
  vbp := 0
  vlp := 0

/-- The external filter after RESET (R34, R213). -/
def ExtFilter.atReset : ExtFilter where
  vlpExt := 0
  vhpExt := 0

/-- The straps at R9's defaults. R9 gives CHIP_MODEL no default: MOS8580 is a DESIGN CHOICE (log entry 4, unsafe for a
claim about `State.reset` that depends on it). -/
def Straps.atDefault : Straps where
  chipModel := .mos8580
  filterEn := true
  extfiltEn := true
  mute1 := false
  mute2 := false
  mute3 := false

/-- The inputs at R28's defaults: what "a host that supplies nothing supplies" (R28, R176). -/
def Inputs.atDefault : Inputs where
  extIn := 0
  potX := 0xFF#8
  potY := 0xFF#8

/-- What a host that presents nothing presents: an idle word and the default inputs (R28). -/
def CyclePins.atDefault : CyclePins where
  word := 0x0000#16
  inputs := Inputs.atDefault

/-- The machine right after reset: R34's values, the straps and inputs at their defaults, no cycle pending. -/
def State.reset : State where
  voice1 := Voice.atReset
  voice2 := Voice.atReset
  voice3 := Voice.atReset
  filter := Filter.atReset
  ext := ExtFilter.atReset
  busValue := 0
  straps := Straps.atDefault
  inputs := Inputs.atDefault
  pending := []
  dataOut := none

end Sys2Proof.Machine
end

