-- ==== Sys2Proof/Machine/Tables.lean ====
section
/-! DEFINITION. The numbers of the core: the fixed parameters of R7, the constant tables of R117 to R120, the lookups in
the table parameters of R8, and R8's default instantiation. -/

namespace Sys2Proof.Machine

/-! ## Fixed parameters (R7) -/

/-- `W0_SHIFT` (R7, D19). -/
def w0Shift : Nat := 20
/-- `Q_SHIFT` (R7, D19). -/
def qShift : Nat := 10
/-- `OUT_SHIFT` (R7, D23). -/
def outShift : Nat := 10
/-- `mullp` (R7, R163, D24). -/
def mulLp : Int := 6237
/-- `shiftlp` (R7, R163, D24). -/
def shiftLp : Nat := 16
/-- `mulhp` (R7, R163, D24). -/
def mulHp : Int := 1678
/-- `shifthp` (R7, R163, D24). -/
def shiftHp : Nat := 24
/-- `EXT_SCALE` (R7). -/
def extScale : Nat := 11
/-- The zero level of a waveform, 0x800 (R132, R135). -/
def zeroLevel : Int := 0x800
/-- `STATE_W`, the width of the filter states in hardware; no rule uses it (R7, R154). -/
def stateW : Nat := 32
/-- The value a falling TEST and RESET give the noise register (R87, R213). -/
def lfsrSeed : BitVec 23 := 0x7FFFF8#23

/-! ## Envelope tables (R117 to R120) -/

/-- `rate_period[0..15]` (R117). -/
def ratePeriod (i : BitVec 4) : Nat :=
  [9, 32, 63, 95, 149, 220, 267, 313, 392, 977, 1954, 3126, 3906, 11720, 19532, 31252].getD i.toNat 0

/-- `exp_level[0..5]`, the floor of each segment (R119). -/
def expLevel (s : Fin 6) : Nat := [0x5D, 0x36, 0x1A, 0x0E, 0x06, 0x00].getD s.val 0

/-- `exp_period[0..5]`, the rate periods per envelope step in each segment (R119). -/
def expPeriod (s : Fin 6) : Nat := [1, 2, 4, 8, 16, 30].getD s.val 0

/-- `exp_segment[0..255]`: the row of R118's table the envelope value falls in; a boundary value falls in the lower
segment (D10). -/
def expSegment (c : Byte) : Fin 6 :=
  if c.toNat ≤ 0x06 then 5
  else if c.toNat ≤ 0x0E then 4
  else if c.toNat ≤ 0x1A then 3
  else if c.toNat ≤ 0x36 then 2
  else if c.toNat ≤ 0x5D then 1
  else 0

/-- `sustain_level[s] = s × 0x11` (R120). -/
def sustainLevel (s : BitVec 4) : Nat := s.toNat * 0x11

/-! ## Lookups in the table parameters (R8) -/

/-- `wave_dac`: the identity for the MOS8580, a parameter for the MOS6581 (R133). -/
def waveDac (T : Tables) (m : ChipModel) (x : BitVec 12) : BitVec 12 :=
  match m with
  | .mos8580 => x
  | .mos6581 => T.waveDac6581 x

/-- `env_dac`: the identity for the MOS8580, a parameter for the MOS6581 (R134). -/
def envDac (T : Tables) (m : ChipModel) (x : Byte) : Byte :=
  match m with
  | .mos8580 => x
  | .mos6581 => T.envDac6581 x

/-- `cutoff_dac[fc]` for the strapped chip, 0 to 2^20 (R8, R148). -/
def cutoffDac (T : Tables) (m : ChipModel) (fc : BitVec 11) : Int := ((T.cutoffDac m fc).val : Int)

/-- `resonance_table[res]` for the strapped chip, 1 to 4095 (R8, R148). -/
def resonanceTable (T : Tables) (m : ChipModel) (res : BitVec 4) : Int := ((T.resonanceLessOne m res).val : Int) + 1

/-- R8's default instantiation, "used by 95_test_vectors.md": identity DACs, the linear cutoff table and the resonance
table, over the combined-waveform tables of `T`, for which R8 gives no default. They "make no claim of fidelity to a
chip" (R8), and the machine does not use them. -/
def defaultTables (T : Tables) : Tables :=
  { T with
    waveDac6581 := fun x => x
    envDac6581 := fun x => x
    cutoffDac := fun _ fc => Fin.ofNat 1048577 (fc.toNat * 82355 / 2047)
    resonanceLessOne := fun _ res => Fin.ofNat 4095 (15360000 / (10605 + 1000 * res.toNat) - 1) }

end Sys2Proof.Machine
end

