-- ==== Sys2Proof/Machine/Operands.lean ====
section
/-! DEFINITION. Operand forms: the fields of the written byte (R63 to R70), the two-register fields (R43), and the
arithmetic of R11. -/

namespace Sys2Proof.Machine

/-! ## Arithmetic (R11) -/

/-- `x >> n` on a signed value: "the arithmetic shift, exactly floor(x / 2^n)" (R11). -/
def floorShift (x : Int) (n : Nat) : Int := x >>> n

/-- `x << n` on a signed value: `x × 2^n` (R11). -/
def shiftUp (x : Int) (n : Nat) : Int := x * ((2 ^ n : Nat) : Int)

/-- `clamp16(x)` (R11). -/
def clamp16 (x : Int) : Int := max (-32768) (min 32767 x)

/-! ## Bytes into two-register fields (R43, R63, R64, R68) -/

/-- `d[7:4]`. -/
def hiNibble (d : Byte) : BitVec 4 := d.extractLsb' 4 4

/-- `d[3:0]`. -/
def loNibble (d : Byte) : BitVec 4 := d.extractLsb' 0 4

/-- `{freq[15:8], d}` (R81). -/
def withFreqLo (freq : BitVec 16) (d : Byte) : BitVec 16 := freq.extractLsb' 8 8 ++ d

/-- `{d, freq[7:0]}` (R82). -/
def withFreqHi (freq : BitVec 16) (d : Byte) : BitVec 16 := d ++ freq.extractLsb' 0 8

/-- `{pw[11:8], d}` (R83). -/
def withPwLo (pw : BitVec 12) (d : Byte) : BitVec 12 := pw.extractLsb' 8 4 ++ d

/-- `{d[3:0], pw[7:0]}`; `d[7:4]` is discarded (R84). -/
def withPwHi (pw : BitVec 12) (d : Byte) : BitVec 12 := loNibble d ++ pw.extractLsb' 0 8

/-- `{fc[10:3], d[2:0]}`; `d[7:3]` is discarded (R141). -/
def withFcLo (fc : BitVec 11) (d : Byte) : BitVec 11 := fc.extractLsb' 3 8 ++ d.extractLsb' 0 3

/-- `{d, fc[2:0]}` (R142). -/
def withFcHi (fc : BitVec 11) (d : Byte) : BitVec 11 := d ++ fc.extractLsb' 0 3

/-! ## Fields of CONTROL and MODE_VOL (R65, R70) -/

/-- CONTROL bit 3, `test` (R65). -/
def testBit (d : Byte) : Bool := d.getLsbD 3
/-- CONTROL bit 2, `ring_mod` (R65). -/
def ringModBit (d : Byte) : Bool := d.getLsbD 2
/-- CONTROL bit 1, `sync` (R65). -/
def syncBit (d : Byte) : Bool := d.getLsbD 1
/-- CONTROL bit 0, `gate` (R65). -/
def gateBit (d : Byte) : Bool := d.getLsbD 0

/-- MODE_VOL bit 7, 3OFF (R70). -/
def voice3offBit (d : Byte) : Bool := d.getLsbD 7
/-- MODE_VOL bit 6, HP (R70). -/
def hpBit (d : Byte) : Bool := d.getLsbD 6
/-- MODE_VOL bit 5, BP (R70). -/
def bpBit (d : Byte) : Bool := d.getLsbD 5
/-- MODE_VOL bit 4, LP (R70). -/
def lpBit (d : Byte) : Bool := d.getLsbD 4

/-! ## Voices and the sync ring (R12, R18, R62) -/

/-- `src(k)`, the sync source of a voice: v1 ← v3, v2 ← v1, v3 ← v2 (R12, R18). -/
def VoiceId.src : VoiceId → VoiceId
  | .v1 => .v3
  | .v2 => .v1
  | .v3 => .v2

/-- `dst(k)`, the sync destination of a voice (R12). -/
def VoiceId.dst : VoiceId → VoiceId
  | .v1 => .v2
  | .v2 => .v3
  | .v3 => .v1

/-- The voice whose block of seven registers holds address `a`, for `a ≤ 20`: `k = floor(a / 7) + 1` (R62). -/
def voiceOfAddr (a : Addr) : VoiceId :=
  if a.toNat / 7 = 0 then .v1 else if a.toNat / 7 = 1 then .v2 else .v3

end Sys2Proof.Machine
end

