-- ==== Sys2Proof/Machine/Flags.lean ====
section
/-! DEFINITION. The one-bit computations of the core: the accumulator's bit rises, the CONTROL transitions, and the
comparisons of the envelope generator (R40). -/

namespace Sys2Proof.Machine

/-- Bit `i` went from 0 to 1 between two accumulator values (R88, R91). -/
def bitRises (i : Nat) (old new : BitVec 24) : Bool := !old.getLsbD i && new.getLsbD i

/-- `msb_rising` after phase A: bit 23 rose (R91). -/
def msbRises (old new : BitVec 24) : Bool := bitRises 23 old new

/-- The noise register is clocked: bit 19 rose (R88, R89). -/
def noiseClocks (old new : BitVec 24) : Bool := bitRises 19 old new

/-- A one-bit CONTROL field goes from 0 to 1 (R86, R114). -/
def rises (old new : Bool) : Bool := !old && new

/-- A one-bit CONTROL field goes from 1 to 0 (R87, R115). -/
def falls (old new : Bool) : Bool := old && !new

/-- The rate index of the present ADSR state (R121). -/
def rateIndex (e : Env) : BitVec 4 :=
  match e.envState with
  | .attack => e.attack
  | .decaySustain => e.decay
  | .release => e.release

/-- The rate counter matches: it equals `rate_period[idx] − 1` (R121). Every period is positive, so this says that the
counter's successor is the period. -/
def rateMatches (e : Env) : Bool := e.rateCounter.toNat + 1 == ratePeriod (rateIndex e)

/-- The exponential-period index: 0 in ATTACK, the envelope's segment otherwise (R122). -/
def expIndex (e : Env) : Fin 6 :=
  match e.envState with
  | .attack => 0
  | .decaySustain => expSegment e.envelopeCounter
  | .release => expSegment e.envelopeCounter

/-- The level the envelope does not fall below in its state, when it is above its segment's floor: the segment's floor
in RELEASE, the larger of that and the sustain level in DECAY_SUSTAIN (R123). -/
def minLevel (e : Env) : Nat :=
  match e.envState with
  | .attack => 0
  | .decaySustain => max (expLevel (expSegment e.envelopeCounter)) (sustainLevel e.sustain)
  | .release => expLevel (expSegment e.envelopeCounter)

/-- The pulse comparator, "unsigned 12-bit comparison" of `acc[23:12] ≥ pw` (R99). -/
def pulseHigh (o : Osc) : Bool := decide (o.pw.toNat ≤ (o.acc.extractLsb' 12 12).toNat)

end Sys2Proof.Machine
end

