-- ==== Sys2Proof/Machine/Units.lean ====
section
/-! DEFINITION. The units of the core, each as functions of its own state: the waveform generator (R86 to R102), the
envelope generator (R114 to R125), the filter step (R149) and the external filter (R164, R165). -/

namespace Sys2Proof.Machine

/-! ## Waveform generator: stepping -/

/-- `lfsr_step(l)`: "new bit0 = bit22 XOR bit17; shift left 1; mask to 23 bits; insert new bit0" (R90). -/
def lfsrStep (l : BitVec 23) : BitVec 23 :=
  (l <<< 1) ||| (BitVec.ofBool (l.getLsbD 22 ^^ l.getLsbD 17)).setWidth 23

/-- Phase A of TICK: accumulate if TEST is clear (R88, R91), otherwise only clear `msb_rising` (R92, D12). -/
def phaseA (o : Osc) : Osc :=
  if o.test then { o with msbRising := false }
  else
    { o with
      acc := o.acc + o.freq.setWidth 24
      lfsr := if noiseClocks o.acc (o.acc + o.freq.setWidth 24) then lfsrStep o.lfsr else o.lfsr
      msbRising := msbRises o.acc (o.acc + o.freq.setWidth 24) }

/-- Phase B of TICK: hard sync clears the accumulator and nothing else (R93). `srcRising` is the source's
`msb_rising`. -/
def phaseB (srcRising : Bool) (o : Osc) : Osc :=
  if o.sync && srcRising then { o with acc := 0 } else o

/-- The waveform part of a CONTROL write: the TEST transition, then the field load (R85 steps 1 and 2, R86, R87). -/
def oscControl (d : Byte) (o : Osc) : Osc :=
  { o with
    acc := if rises o.test (testBit d) then 0 else o.acc
    lfsr := if rises o.test (testBit d) then 0 else if falls o.test (testBit d) then lfsrSeed else o.lfsr
    msbRising := if rises o.test (testBit d) then false else o.msbRising
    waveform := hiNibble d
    test := testBit d
    ringMod := ringModBit d
    sync := syncBit d }

/-! ## Waveform generator: output (R95) -/

/-- Triangle (R97); `srcMsb` is bit 23 of the source voice's accumulator. -/
def triangleOut (o : Osc) (srcMsb : Bool) : BitVec 12 :=
  if o.acc.getLsbD 23 ^^ (o.ringMod && srcMsb) then (~~~o.acc).extractLsb' 11 12 else o.acc.extractLsb' 11 12

/-- Sawtooth (R98). -/
def sawtoothOut (o : Osc) : BitVec 12 := o.acc.extractLsb' 12 12

/-- Pulse (R99). -/
def pulseOut (o : Osc) : BitVec 12 := if pulseHigh o then 0xFFF#12 else 0x000#12

/-- Noise: eight taps of the shift register in bits 11 to 4, zeros below (R100, D13). -/
def noiseOut (o : Osc) : BitVec 12 :=
  BitVec.ofBool (o.lfsr.getLsbD 22) ++ BitVec.ofBool (o.lfsr.getLsbD 20) ++ BitVec.ofBool (o.lfsr.getLsbD 16)
    ++ BitVec.ofBool (o.lfsr.getLsbD 13) ++ BitVec.ofBool (o.lfsr.getLsbD 11) ++ BitVec.ofBool (o.lfsr.getLsbD 7)
    ++ BitVec.ofBool (o.lfsr.getLsbD 4) ++ BitVec.ofBool (o.lfsr.getLsbD 2) ++ 0#4

/-- A combined-waveform entry in the output's upper eight bits: `entry << 4` (R101). -/
def entryOut (entry : Byte) : BitVec 12 := entry ++ 0#4

/-- `wave_out` of a waveform generator, selected by `waveform` as in R72: noise, pulse, sawtooth, triangle from bit 3
down. Noise with any other bit gives 0 (R102). -/
def oscOut (T : Tables) (m : ChipModel) (o : Osc) (srcMsb : Bool) : BitVec 12 :=
  match o.waveform.getLsbD 3, o.waveform.getLsbD 2, o.waveform.getLsbD 1, o.waveform.getLsbD 0 with
  | false, false, false, false => 0
  | false, false, false, true => triangleOut o srcMsb
  | false, false, true, false => sawtoothOut o
  | false, false, true, true => entryOut (T.waveST m (o.acc.extractLsb' 11 12))
  | false, true, false, false => pulseOut o
  | false, true, false, true => entryOut (T.wavePT m (o.acc.extractLsb' 11 12)) &&& pulseOut o
  | false, true, true, false => entryOut (T.wavePS m (o.acc.extractLsb' 12 12)) &&& pulseOut o
  | false, true, true, true => entryOut (T.wavePST m (o.acc.extractLsb' 11 12)) &&& pulseOut o
  | true, false, false, false => noiseOut o
  | true, false, false, true => 0
  | true, false, true, false => 0
  | true, false, true, true => 0
  | true, true, false, false => 0
  | true, true, false, true => 0
  | true, true, true, false => 0
  | true, true, true, true => 0

/-! ## Envelope generator -/

/-- The gate part of a CONTROL write: on a transition the state changes and `exp_counter` is cleared, otherwise nothing
changes (R114, R115, R116). `rate_counter` and `envelope_counter` keep their values. -/
def envControl (d : Byte) (e : Env) : Env :=
  if rises e.gate (gateBit d) then { e with gate := true, envState := .attack, expCounter := 0 }
  else if falls e.gate (gateBit d) then { e with gate := false, envState := .release, expCounter := 0 }
  else e

/-- The envelope step: up by one in ATTACK while below 0xFF, down by one in the other states while above the floor
(R123). -/
def envelopeStep (e : Env) : Env :=
  match e.envState with
  | .attack => if e.envelopeCounter.toNat < 0xFF then { e with envelopeCounter := e.envelopeCounter + 1 } else e
  | .decaySustain =>
    if minLevel e < e.envelopeCounter.toNat then { e with envelopeCounter := e.envelopeCounter - 1 } else e
  | .release =>
    if minLevel e < e.envelopeCounter.toNat then { e with envelopeCounter := e.envelopeCounter - 1 } else e

/-- The exponential step, run when the rate counter matched (R122). -/
def exponentialStep (e : Env) : Env :=
  if (e.expCounter + 1).toNat = expPeriod (expIndex e) then envelopeStep { e with expCounter := 0 }
  else { e with expCounter := e.expCounter + 1 }

/-- The rate divider: on a match the counter restarts and the exponential step runs, otherwise it counts modulo 2^15
(R121). -/
def rateStep (e : Env) : Env :=
  if rateMatches e then exponentialStep { e with rateCounter := 0 }
  else { e with rateCounter := e.rateCounter + 1 }

/-- The state check: ATTACK at 0xFF becomes DECAY_SUSTAIN (R125). -/
def stateCheck (e : Env) : Env :=
  match e.envState with
  | .attack => if e.envelopeCounter = 0xFF#8 then { e with envState := .decaySustain } else e
  | .decaySustain => e
  | .release => e

/-- The envelope part of TICK, complete (R121). -/
def envTick (e : Env) : Env := stateCheck (rateStep e)

/-! ## Filter and external filter -/

/-- The filter step: three assignments in the order written, each using the newest values (R149, R150, D19). -/
def filterStep (w0 invQ vi : Int) (f : Filter) : Filter :=
  let vhp := floorShift (f.vbp * invQ) qShift - f.vlp - vi
  let vbp := f.vbp - floorShift (w0 * vhp) w0Shift
  let vlp := f.vlp - floorShift (w0 * vbp) w0Shift
  { f with vhp := vhp, vbp := vbp, vlp := vlp }

/-- `ext_step(vi)`: the high-pass state first, from the low-pass state of the previous TICK (R164, D24). -/
def extStep (vi : Int) (x : ExtFilter) : ExtFilter where
  vhpExt := x.vhpExt + floorShift (mulHp * (x.vlpExt - x.vhpExt)) shiftHp
  vlpExt := x.vlpExt + floorShift (mulLp * (shiftUp vi extScale - x.vlpExt)) shiftLp

/-- `ext_out` (R165). -/
def extOut (x : ExtFilter) : Int := floorShift (x.vlpExt - x.vhpExt) extScale

end Sys2Proof.Machine
end

