-- ==== Sys2Proof/Machine/Ops.lean ====
section
/-! DEFINITION. The named operations over the whole state: the derived values (R95, R126, R135, R146 to R153, R162,
R167), the TICK (R174), the register write and read (R46, R47), the bus cycles (R175), RESET (R213) and the
sampling of the pins (R57). The core has no
exceptions (R200), so there is no operation that takes one. -/

namespace Sys2Proof.Machine

/-! ## Access to the voices -/

/-- `V[k]` (R12). -/
def State.voice (s : State) : VoiceId → Voice
  | .v1 => s.voice1
  | .v2 => s.voice2
  | .v3 => s.voice3

/-- `V[k]` replaced. -/
def State.setVoice (s : State) (k : VoiceId) (v : Voice) : State :=
  match k with
  | .v1 => { s with voice1 := v }
  | .v2 => { s with voice2 := v }
  | .v3 => { s with voice3 := v }

/-- The waveform generator of `V[k]` changed by `f`. -/
def State.updOsc (s : State) (k : VoiceId) (f : Osc → Osc) : State :=
  s.setVoice k { s.voice k with osc := f (s.voice k).osc }

/-- The envelope generator of `V[k]` changed by `f`. -/
def State.updEnv (s : State) (k : VoiceId) (f : Env → Env) : State :=
  s.setVoice k { s.voice k with env := f (s.voice k).env }

/-- `MUTE[k]` (R9). -/
def Straps.mute (p : Straps) : VoiceId → Bool
  | .v1 => p.mute1
  | .v2 => p.mute2
  | .v3 => p.mute3

/-! ## Derived values (R30) -/

/-- `wave_out(k)` (R95). -/
def waveOut (T : Tables) (s : State) (k : VoiceId) : BitVec 12 :=
  oscOut T s.straps.chipModel (s.voice k).osc ((s.voice k.src).osc.acc.getLsbD 23)

/-- `env_out(k)` (R126). -/
def envOut (s : State) (k : VoiceId) : Byte := (s.voice k).env.envelopeCounter

/-- `voice(k)`, the voice sample (R135). -/
def voiceSample (T : Tables) (s : State) (k : VoiceId) : Int :=
  if s.straps.mute k then 0
  else
    (((waveDac T s.straps.chipModel (waveOut T s k)).toNat : Int) - zeroLevel)
      * ((envDac T s.straps.chipModel (envOut s k)).toNat : Int)

/-- `Vext`, EXT_IN read as 20 bits signed (R28, R145, D22). -/
def extSample (s : State) : Int := s.inputs.extIn.toInt

/-- The routing mask in force: `filt` if FILTER_EN, otherwise 0 (R146, R153). -/
def routeMask (s : State) : BitVec 4 := if s.straps.filterEn then s.filter.filt else 0

/-- `Vi`, the sum of the sources selected into the filter (R146). -/
def filterIn (T : Tables) (s : State) : Int :=
  (if (routeMask s).getLsbD 0 then voiceSample T s .v1 else 0)
    + (if (routeMask s).getLsbD 1 then voiceSample T s .v2 else 0)
    + (if (routeMask s).getLsbD 2 then voiceSample T s .v3 else 0)
    + (if (routeMask s).getLsbD 3 then extSample s else 0)

/-- `Vnf`, the sum of the sources not selected, leaving out voice 3 when 3OFF is set (R146, R147). -/
def filterBypass (T : Tables) (s : State) : Int :=
  (if (routeMask s).getLsbD 0 then 0 else voiceSample T s .v1)
    + (if (routeMask s).getLsbD 1 then 0 else voiceSample T s .v2)
    + (if (routeMask s).getLsbD 2 || s.filter.voice3off then 0 else voiceSample T s .v3)
    + (if (routeMask s).getLsbD 3 then 0 else extSample s)

/-- `Vf`, the sum of the selected taps; 0 when FILTER_EN = 0 (R151). -/
def filterTaps (s : State) : Int :=
  if s.straps.filterEn then
    (if s.filter.lp then s.filter.vlp else 0) + (if s.filter.bp then s.filter.vbp else 0)
      + (if s.filter.hp then s.filter.vhp else 0)
  else 0

/-- `Vint = (Vf + Vnf) × vol` (R152). -/
def internalOut (T : Tables) (s : State) : Int := (filterTaps s + filterBypass T s) * (s.filter.vol.toNat : Int)

/-- `vi = (−Vint) >> 10` (R161, R162, D23). -/
def scaledOut (T : Tables) (s : State) : Int := floorShift (-(internalOut T s)) outShift

/-- `AUDIO_OUT`, the source's `output()`, as an integer (R167). -/
def audioOut (T : Tables) (s : State) : Int :=
  if s.straps.extfiltEn then clamp16 (extOut s.ext) else clamp16 (scaledOut T s)

/-- The port `AUDIO_OUT[15:0]`, 16 bits signed (R29, R59). -/
def audioPort (T : Tables) (s : State) : BitVec 16 := BitVec.ofInt 16 (audioOut T s)

/-- The source's `output(bits)` for bits in 1 to 16; the spec defines no other (R168, log entry 9). -/
def audioOutBits (T : Tables) (s : State) (bits : Nat) : Option Int :=
  if 1 ≤ bits ∧ bits ≤ 16 then some (floorShift (audioOut T s) (16 - bits)) else none

/-! ## TICK (R174) -/

/-- Step 1: the envelope part for the three voices (R121). -/
def tickEnvelopes (s : State) : State :=
  { s with
    voice1 := { s.voice1 with env := envTick s.voice1.env }
    voice2 := { s.voice2 with env := envTick s.voice2.env }
    voice3 := { s.voice3 with env := envTick s.voice3.env } }

/-- Step 2, phase A for the three voices (R88, R92). -/
def tickPhaseA (s : State) : State :=
  { s with
    voice1 := { s.voice1 with osc := phaseA s.voice1.osc }
    voice2 := { s.voice2 with osc := phaseA s.voice2.osc }
    voice3 := { s.voice3 with osc := phaseA s.voice3.osc } }

/-- Step 2, phase B for the three voices, after phase A of all three; each reads the flag of its source in the ring
(R18, R93, R94). -/
def tickPhaseB (s : State) : State :=
  { s with
    voice1 := { s.voice1 with osc := phaseB s.voice3.osc.msbRising s.voice1.osc }
    voice2 := { s.voice2 with osc := phaseB s.voice1.osc.msbRising s.voice2.osc }
    voice3 := { s.voice3 with osc := phaseB s.voice2.osc.msbRising s.voice3.osc } }

/-- Step 3: the filter part, `Vi` from the state after step 2 (R149, R153). -/
def tickFilter (T : Tables) (s : State) : State :=
  if s.straps.filterEn then
    { s with
      filter :=
        filterStep (cutoffDac T s.straps.chipModel s.filter.fc) (resonanceTable T s.straps.chipModel s.filter.res)
          (filterIn T s) s.filter }
  else s

/-- Step 4: the external-filter part, `vi` from the state after step 3 (R164, R166). -/
def tickExt (T : Tables) (s : State) : State :=
  if s.straps.extfiltEn then { s with ext := extStep (scaledOut T s) s.ext } else s

/-- TICK: the state change of one clock cycle, the source's `clock(1)` (R174). -/
def tick (T : Tables) (s : State) : State :=
  tickExt T (tickFilter T (tickPhaseB (tickPhaseA (tickEnvelopes s))))

/-! ## Register writes -/

/-- FREQ_LO (R81). -/
def writeFreqLo (k : VoiceId) (d : Byte) (s : State) : State := s.updOsc k fun o => { o with freq := withFreqLo o.freq d }

/-- FREQ_HI (R82). -/
def writeFreqHi (k : VoiceId) (d : Byte) (s : State) : State := s.updOsc k fun o => { o with freq := withFreqHi o.freq d }

/-- PW_LO (R83). -/
def writePwLo (k : VoiceId) (d : Byte) (s : State) : State := s.updOsc k fun o => { o with pw := withPwLo o.pw d }

/-- PW_HI (R84). -/
def writePwHi (k : VoiceId) (d : Byte) (s : State) : State := s.updOsc k fun o => { o with pw := withPwHi o.pw d }

/-- CONTROL: the waveform part, then the gate part (R85). -/
def writeControl (k : VoiceId) (d : Byte) (s : State) : State := (s.updOsc k (oscControl d)).updEnv k (envControl d)

/-- ATTACK_DECAY (R111). -/
def writeAttackDecay (k : VoiceId) (d : Byte) (s : State) : State :=
  s.updEnv k fun e => { e with attack := hiNibble d, decay := loNibble d }

/-- SUSTAIN_RELEASE (R112). -/
def writeSustainRelease (k : VoiceId) (d : Byte) (s : State) : State :=
  s.updEnv k fun e => { e with sustain := hiNibble d, release := loNibble d }

/-- FC_LO (R141). -/
def writeFcLo (d : Byte) (s : State) : State := { s with filter := { s.filter with fc := withFcLo s.filter.fc d } }

/-- FC_HI (R142). -/
def writeFcHi (d : Byte) (s : State) : State := { s with filter := { s.filter with fc := withFcHi s.filter.fc d } }

/-- RES_FILT (R143). -/
def writeResFilt (d : Byte) (s : State) : State :=
  { s with filter := { s.filter with res := hiNibble d, filt := loNibble d } }

/-- MODE_VOL (R144). -/
def writeModeVol (d : Byte) (s : State) : State :=
  { s with
    filter :=
      { s.filter with
        voice3off := voice3offBit d
        hp := hpBit d
        bp := bpBit d
        lp := lpBit d
        vol := loNibble d } }

/-- A write to an address 25..31: nothing beyond `bus_value` (R178). -/
def writeIgnored (s : State) : State := s

/-- The register at offset 0..6 of a voice block, in the order of R61. -/
def writeVoiceReg (k : VoiceId) (offset : Nat) (d : Byte) (s : State) : State :=
  if offset = 0 then writeFreqLo k d s
  else if offset = 1 then writeFreqHi k d s
  else if offset = 2 then writePwLo k d s
  else if offset = 3 then writePwHi k d s
  else if offset = 4 then writeControl k d s
  else if offset = 5 then writeAttackDecay k d s
  else writeSustainRelease k d s

/-- `write(a, d)`, the source's register write: `bus_value <- d`, then the register's rule if `a ≤ 24` (R46, R62). It
runs no TICK. -/
def writeReg (a : Addr) (d : Byte) (s : State) : State :=
  let s := { s with busValue := d }
  if a.toNat ≤ 20 then writeVoiceReg (voiceOfAddr a) (a.toNat % 7) d s
  else if a.toNat = 21 then writeFcLo d s
  else if a.toNat = 22 then writeFcHi d s
  else if a.toNat = 23 then writeResFilt d s
  else if a.toNat = 24 then writeModeVol d s
  else writeIgnored s

/-! ## Register reads -/

/-- OSC3: `wave_out(3)[11:4]` (R103). -/
def readOsc3 (T : Tables) (s : State) : Byte := (waveOut T s .v3).extractLsb' 4 8

/-- ENV3: voice 3's envelope counter (R126). -/
def readEnv3 (s : State) : Byte := envOut s .v3

/-- POTX (R176). -/
def readPotX (s : State) : Byte := s.inputs.potX

/-- POTY (R176). -/
def readPotY (s : State) : Byte := s.inputs.potY

/-- Any other address: the byte most recently written (R177). -/
def readBus (s : State) : Byte := s.busValue

/-- `read(a)`, the source's register read; it changes no state (R47). -/
def readReg (T : Tables) (a : Addr) (s : State) : Byte :=
  if a.toNat = 25 then readPotX s
  else if a.toNat = 26 then readPotY s
  else if a.toNat = 27 then readOsc3 T s
  else if a.toNat = 28 then readEnv3 s
  else readBus s

/-! ## Clock cycles (R175) -/

/-- An idle cycle: the TICK; DATA_OUT is not valid (R59, R175). -/
def idleCycle (T : Tables) (s : State) : State := { tick T s with dataOut := none }

/-- A WR cycle: the TICK, then `bus_value <- d`, then the register's rule; DATA_OUT is not valid (R46, R59, R175). -/
def wrCycle (T : Tables) (rule : State → State) (d : Byte) (s : State) : State :=
  { rule { tick T s with busValue := d } with dataOut := none }

/-- A RD cycle: the TICK, then DATA_OUT takes the register's value in the state after it (R47, R175). -/
def rdCycle (T : Tables) (value : State → Byte) (s : State) : State :=
  { tick T s with dataOut := some (value (tick T s)) }

/-- A RESET cycle: every field of R34 takes its reset value, no TICK; straps and inputs are not changed (R213). -/
def resetCycle (s : State) : State :=
  { State.reset with straps := s.straps, inputs := s.inputs, pending := s.pending }

/-! ## Sampling the pins (R57) -/

/-- The pins of the next cycle: the next pending cycle, or the defaults of R28 when the host presents nothing. -/
def State.nextPins (s : State) : CyclePins :=
  match s.pending with
  | [] => CyclePins.atDefault
  | p :: _ => p

/-- The state in which the next cycle's operation runs: its inputs on the pins, its word taken from the list. -/
def State.sampled (s : State) : State := { s with inputs := s.nextPins.inputs, pending := s.pending.tail }

/-! ## The source's operations that no cycle word performs (R60) -/

/-- `clock(n)`: n successive TICKs (R180). -/
def clock (T : Tables) : Nat → State → State
  | 0, s => s
  | n + 1, s => clock T n (tick T s)

/-- `enable_filter(b)` (R187): the strap alone changes (R186). -/
def enableFilter (b : Bool) (s : State) : State := { s with straps := { s.straps with filterEn := b } }

/-- `enable_external_filter(b)` (R187). -/
def enableExternalFilter (b : Bool) (s : State) : State := { s with straps := { s.straps with extfiltEn := b } }

/-- `set_chip_model(m)` (R185). -/
def setChipModel (m : ChipModel) (s : State) : State := { s with straps := { s.straps with chipModel := m } }

/-- `MUTE[k]`: a strap "the source gives no operation that sets" (R136); R186 says what changing one does. -/
def setMute (k : VoiceId) (b : Bool) (s : State) : State :=
  match k with
  | .v1 => { s with straps := { s.straps with mute1 := b } }
  | .v2 => { s with straps := { s.straps with mute2 := b } }
  | .v3 => { s with straps := { s.straps with mute3 := b } }

end Sys2Proof.Machine
end

