-- ==== Sys2Proof/Machine/Bus.lean ====
section
/-! DEFINITION. Meanings of the bus operations of no other family (R176 to R178): POTX, POTY, reads of `bus_value` and ignored writes. -/

namespace Sys2Proof.Machine

/-- `WR_POTX`: the TICK, then `bus_value` alone (R178). -/
def execWrPotx (d : Byte) (s : State) : Host.Outcome State Fault Refusal :=
  .next (wrCycle Config.tables writeIgnored d s)

/-- `WR_POTY`: the TICK, then `bus_value` alone (R178). -/
def execWrPoty (d : Byte) (s : State) : Host.Outcome State Fault Refusal :=
  .next (wrCycle Config.tables writeIgnored d s)

/-- `WR_OSC3`: the TICK, then `bus_value` alone (R178). -/
def execWrOsc3 (d : Byte) (s : State) : Host.Outcome State Fault Refusal :=
  .next (wrCycle Config.tables writeIgnored d s)

/-- `WR_ENV3`: the TICK, then `bus_value` alone (R178). -/
def execWrEnv3 (d : Byte) (s : State) : Host.Outcome State Fault Refusal :=
  .next (wrCycle Config.tables writeIgnored d s)

/-- `WR_UNUSED_1D`: the TICK, then `bus_value` alone (R178). -/
def execWrUnused1D (d : Byte) (s : State) : Host.Outcome State Fault Refusal :=
  .next (wrCycle Config.tables writeIgnored d s)

/-- `WR_UNUSED_1E`: the TICK, then `bus_value` alone (R178). -/
def execWrUnused1E (d : Byte) (s : State) : Host.Outcome State Fault Refusal :=
  .next (wrCycle Config.tables writeIgnored d s)

/-- `WR_UNUSED_1F`: the TICK, then `bus_value` alone (R178). -/
def execWrUnused1F (d : Byte) (s : State) : Host.Outcome State Fault Refusal :=
  .next (wrCycle Config.tables writeIgnored d s)

/-- `RD_V1.FREQ_LO`: the TICK, then DATA_OUT takes `bus_value` (R177). -/
def execRdV1FreqLo (s : State) : Host.Outcome State Fault Refusal :=
  .next (rdCycle Config.tables readBus s)

/-- `RD_V1.FREQ_HI`: the TICK, then DATA_OUT takes `bus_value` (R177). -/
def execRdV1FreqHi (s : State) : Host.Outcome State Fault Refusal :=
  .next (rdCycle Config.tables readBus s)

/-- `RD_V1.PW_LO`: the TICK, then DATA_OUT takes `bus_value` (R177). -/
def execRdV1PwLo (s : State) : Host.Outcome State Fault Refusal :=
  .next (rdCycle Config.tables readBus s)

/-- `RD_V1.PW_HI`: the TICK, then DATA_OUT takes `bus_value` (R177). -/
def execRdV1PwHi (s : State) : Host.Outcome State Fault Refusal :=
  .next (rdCycle Config.tables readBus s)

/-- `RD_V1.CONTROL`: the TICK, then DATA_OUT takes `bus_value` (R177). -/
def execRdV1Control (s : State) : Host.Outcome State Fault Refusal :=
  .next (rdCycle Config.tables readBus s)

/-- `RD_V1.ATTACK_DECAY`: the TICK, then DATA_OUT takes `bus_value` (R177). -/
def execRdV1AttackDecay (s : State) : Host.Outcome State Fault Refusal :=
  .next (rdCycle Config.tables readBus s)

/-- `RD_V1.SUSTAIN_RELEASE`: the TICK, then DATA_OUT takes `bus_value` (R177). -/
def execRdV1SustainRelease (s : State) : Host.Outcome State Fault Refusal :=
  .next (rdCycle Config.tables readBus s)

/-- `RD_V2.FREQ_LO`: the TICK, then DATA_OUT takes `bus_value` (R177). -/
def execRdV2FreqLo (s : State) : Host.Outcome State Fault Refusal :=
  .next (rdCycle Config.tables readBus s)

/-- `RD_V2.FREQ_HI`: the TICK, then DATA_OUT takes `bus_value` (R177). -/
def execRdV2FreqHi (s : State) : Host.Outcome State Fault Refusal :=
  .next (rdCycle Config.tables readBus s)

/-- `RD_V2.PW_LO`: the TICK, then DATA_OUT takes `bus_value` (R177). -/
def execRdV2PwLo (s : State) : Host.Outcome State Fault Refusal :=
  .next (rdCycle Config.tables readBus s)

/-- `RD_V2.PW_HI`: the TICK, then DATA_OUT takes `bus_value` (R177). -/
def execRdV2PwHi (s : State) : Host.Outcome State Fault Refusal :=
  .next (rdCycle Config.tables readBus s)

/-- `RD_V2.CONTROL`: the TICK, then DATA_OUT takes `bus_value` (R177). -/
def execRdV2Control (s : State) : Host.Outcome State Fault Refusal :=
  .next (rdCycle Config.tables readBus s)

/-- `RD_V2.ATTACK_DECAY`: the TICK, then DATA_OUT takes `bus_value` (R177). -/
def execRdV2AttackDecay (s : State) : Host.Outcome State Fault Refusal :=
  .next (rdCycle Config.tables readBus s)

/-- `RD_V2.SUSTAIN_RELEASE`: the TICK, then DATA_OUT takes `bus_value` (R177). -/
def execRdV2SustainRelease (s : State) : Host.Outcome State Fault Refusal :=
  .next (rdCycle Config.tables readBus s)

/-- `RD_V3.FREQ_LO`: the TICK, then DATA_OUT takes `bus_value` (R177). -/
def execRdV3FreqLo (s : State) : Host.Outcome State Fault Refusal :=
  .next (rdCycle Config.tables readBus s)

/-- `RD_V3.FREQ_HI`: the TICK, then DATA_OUT takes `bus_value` (R177). -/
def execRdV3FreqHi (s : State) : Host.Outcome State Fault Refusal :=
  .next (rdCycle Config.tables readBus s)

/-- `RD_V3.PW_LO`: the TICK, then DATA_OUT takes `bus_value` (R177). -/
def execRdV3PwLo (s : State) : Host.Outcome State Fault Refusal :=
  .next (rdCycle Config.tables readBus s)

/-- `RD_V3.PW_HI`: the TICK, then DATA_OUT takes `bus_value` (R177). -/
def execRdV3PwHi (s : State) : Host.Outcome State Fault Refusal :=
  .next (rdCycle Config.tables readBus s)

/-- `RD_V3.CONTROL`: the TICK, then DATA_OUT takes `bus_value` (R177). -/
def execRdV3Control (s : State) : Host.Outcome State Fault Refusal :=
  .next (rdCycle Config.tables readBus s)

/-- `RD_V3.ATTACK_DECAY`: the TICK, then DATA_OUT takes `bus_value` (R177). -/
def execRdV3AttackDecay (s : State) : Host.Outcome State Fault Refusal :=
  .next (rdCycle Config.tables readBus s)

/-- `RD_V3.SUSTAIN_RELEASE`: the TICK, then DATA_OUT takes `bus_value` (R177). -/
def execRdV3SustainRelease (s : State) : Host.Outcome State Fault Refusal :=
  .next (rdCycle Config.tables readBus s)

/-- `RD_FC_LO`: the TICK, then DATA_OUT takes `bus_value` (R177). -/
def execRdFcLo (s : State) : Host.Outcome State Fault Refusal :=
  .next (rdCycle Config.tables readBus s)

/-- `RD_FC_HI`: the TICK, then DATA_OUT takes `bus_value` (R177). -/
def execRdFcHi (s : State) : Host.Outcome State Fault Refusal :=
  .next (rdCycle Config.tables readBus s)

/-- `RD_RES_FILT`: the TICK, then DATA_OUT takes `bus_value` (R177). -/
def execRdResFilt (s : State) : Host.Outcome State Fault Refusal :=
  .next (rdCycle Config.tables readBus s)

/-- `RD_MODE_VOL`: the TICK, then DATA_OUT takes `bus_value` (R177). -/
def execRdModeVol (s : State) : Host.Outcome State Fault Refusal :=
  .next (rdCycle Config.tables readBus s)

/-- `RD_POTX`: the TICK, then the read of R176. -/
def execRdPotx (s : State) : Host.Outcome State Fault Refusal :=
  .next (rdCycle Config.tables readPotX s)

/-- `RD_POTY`: the TICK, then the read of R176. -/
def execRdPoty (s : State) : Host.Outcome State Fault Refusal :=
  .next (rdCycle Config.tables readPotY s)

/-- `RD_UNUSED_1D`: the TICK, then DATA_OUT takes `bus_value` (R177). -/
def execRdUnused1D (s : State) : Host.Outcome State Fault Refusal :=
  .next (rdCycle Config.tables readBus s)

/-- `RD_UNUSED_1E`: the TICK, then DATA_OUT takes `bus_value` (R177). -/
def execRdUnused1E (s : State) : Host.Outcome State Fault Refusal :=
  .next (rdCycle Config.tables readBus s)

/-- `RD_UNUSED_1F`: the TICK, then DATA_OUT takes `bus_value` (R177). -/
def execRdUnused1F (s : State) : Host.Outcome State Fault Refusal :=
  .next (rdCycle Config.tables readBus s)

end Sys2Proof.Machine
end

