-- ==== Sys2Proof/Machine/Cycle.lean ====
section
/-! DEFINITION. Meanings of the operations without an address: RESET and IDLE (R174, R179). -/

namespace Sys2Proof.Machine

/-- `RESET`: every state field to its reset value, no TICK (R179, R213). -/
def execReset (s : State) : Host.Outcome State Fault Refusal :=
  .next (resetCycle s)

/-- `IDLE`: one TICK (R174, R175). -/
def execIdle (s : State) : Host.Outcome State Fault Refusal :=
  .next (idleCycle Config.tables s)

end Sys2Proof.Machine
end

