-- ==== Sys2Proof/Machine/Envelope.lean ====
section
/-! DEFINITION. Meanings of the envelope generator family (R110): ATTACK_DECAY and SUSTAIN_RELEASE writes of the three voices, and ENV3. -/

namespace Sys2Proof.Machine

/-- `WR_V1.ATTACK_DECAY`: the TICK, then the write of R111 in voice 1. -/
def execWrV1AttackDecay (d : Byte) (s : State) : Host.Outcome State Fault Refusal :=
  .next (wrCycle Config.tables (writeAttackDecay .v1 d) d s)

/-- `WR_V1.SUSTAIN_RELEASE`: the TICK, then the write of R112 in voice 1. -/
def execWrV1SustainRelease (d : Byte) (s : State) : Host.Outcome State Fault Refusal :=
  .next (wrCycle Config.tables (writeSustainRelease .v1 d) d s)

/-- `WR_V2.ATTACK_DECAY`: the TICK, then the write of R111 in voice 2. -/
def execWrV2AttackDecay (d : Byte) (s : State) : Host.Outcome State Fault Refusal :=
  .next (wrCycle Config.tables (writeAttackDecay .v2 d) d s)

/-- `WR_V2.SUSTAIN_RELEASE`: the TICK, then the write of R112 in voice 2. -/
def execWrV2SustainRelease (d : Byte) (s : State) : Host.Outcome State Fault Refusal :=
  .next (wrCycle Config.tables (writeSustainRelease .v2 d) d s)

/-- `WR_V3.ATTACK_DECAY`: the TICK, then the write of R111 in voice 3. -/
def execWrV3AttackDecay (d : Byte) (s : State) : Host.Outcome State Fault Refusal :=
  .next (wrCycle Config.tables (writeAttackDecay .v3 d) d s)

/-- `WR_V3.SUSTAIN_RELEASE`: the TICK, then the write of R112 in voice 3. -/
def execWrV3SustainRelease (d : Byte) (s : State) : Host.Outcome State Fault Refusal :=
  .next (wrCycle Config.tables (writeSustainRelease .v3 d) d s)

/-- `RD_ENV3`: the TICK, then the read of R126. -/
def execRdEnv3 (s : State) : Host.Outcome State Fault Refusal :=
  .next (rdCycle Config.tables readEnv3 s)

end Sys2Proof.Machine
end

