-- ==== Sys2Proof/Machine/Filter.lean ====
section
/-! DEFINITION. Meanings of the filter family (R140): FC_LO, FC_HI, RES_FILT and MODE_VOL. -/

namespace Sys2Proof.Machine

/-- `WR_FC_LO`: the TICK, then the write of R141. -/
def execWrFcLo (d : Byte) (s : State) : Host.Outcome State Fault Refusal :=
  .next (wrCycle Config.tables (writeFcLo d) d s)

/-- `WR_FC_HI`: the TICK, then the write of R142. -/
def execWrFcHi (d : Byte) (s : State) : Host.Outcome State Fault Refusal :=
  .next (wrCycle Config.tables (writeFcHi d) d s)

/-- `WR_RES_FILT`: the TICK, then the write of R143. -/
def execWrResFilt (d : Byte) (s : State) : Host.Outcome State Fault Refusal :=
  .next (wrCycle Config.tables (writeResFilt d) d s)

/-- `WR_MODE_VOL`: the TICK, then the write of R144. -/
def execWrModeVol (d : Byte) (s : State) : Host.Outcome State Fault Refusal :=
  .next (wrCycle Config.tables (writeModeVol d) d s)

end Sys2Proof.Machine
end

