-- ==== Sys2Proof/Machine/Waveform.lean ====
section
/-! DEFINITION. Meanings of the waveform generator family (R80): FREQ, PW and CONTROL writes of the three voices, and OSC3. -/

namespace Sys2Proof.Machine

/-- `WR_V1.FREQ_LO`: the TICK, then the write of R81 in voice 1. -/
def execWrV1FreqLo (d : Byte) (s : State) : Host.Outcome State Fault Refusal :=
  .next (wrCycle Config.tables (writeFreqLo .v1 d) d s)

/-- `WR_V1.FREQ_HI`: the TICK, then the write of R82 in voice 1. -/
def execWrV1FreqHi (d : Byte) (s : State) : Host.Outcome State Fault Refusal :=
  .next (wrCycle Config.tables (writeFreqHi .v1 d) d s)

/-- `WR_V1.PW_LO`: the TICK, then the write of R83 in voice 1. -/
def execWrV1PwLo (d : Byte) (s : State) : Host.Outcome State Fault Refusal :=
  .next (wrCycle Config.tables (writePwLo .v1 d) d s)

/-- `WR_V1.PW_HI`: the TICK, then the write of R84 in voice 1. -/
def execWrV1PwHi (d : Byte) (s : State) : Host.Outcome State Fault Refusal :=
  .next (wrCycle Config.tables (writePwHi .v1 d) d s)

/-- `WR_V1.CONTROL`: the TICK, then the write of R85 to R87 and R114 to R116 in voice 1. -/
def execWrV1Control (d : Byte) (s : State) : Host.Outcome State Fault Refusal :=
  .next (wrCycle Config.tables (writeControl .v1 d) d s)

/-- `WR_V2.FREQ_LO`: the TICK, then the write of R81 in voice 2. -/
def execWrV2FreqLo (d : Byte) (s : State) : Host.Outcome State Fault Refusal :=
  .next (wrCycle Config.tables (writeFreqLo .v2 d) d s)

/-- `WR_V2.FREQ_HI`: the TICK, then the write of R82 in voice 2. -/
def execWrV2FreqHi (d : Byte) (s : State) : Host.Outcome State Fault Refusal :=
  .next (wrCycle Config.tables (writeFreqHi .v2 d) d s)

/-- `WR_V2.PW_LO`: the TICK, then the write of R83 in voice 2. -/
def execWrV2PwLo (d : Byte) (s : State) : Host.Outcome State Fault Refusal :=
  .next (wrCycle Config.tables (writePwLo .v2 d) d s)

/-- `WR_V2.PW_HI`: the TICK, then the write of R84 in voice 2. -/
def execWrV2PwHi (d : Byte) (s : State) : Host.Outcome State Fault Refusal :=
  .next (wrCycle Config.tables (writePwHi .v2 d) d s)

/-- `WR_V2.CONTROL`: the TICK, then the write of R85 to R87 and R114 to R116 in voice 2. -/
def execWrV2Control (d : Byte) (s : State) : Host.Outcome State Fault Refusal :=
  .next (wrCycle Config.tables (writeControl .v2 d) d s)

/-- `WR_V3.FREQ_LO`: the TICK, then the write of R81 in voice 3. -/
def execWrV3FreqLo (d : Byte) (s : State) : Host.Outcome State Fault Refusal :=
  .next (wrCycle Config.tables (writeFreqLo .v3 d) d s)

/-- `WR_V3.FREQ_HI`: the TICK, then the write of R82 in voice 3. -/
def execWrV3FreqHi (d : Byte) (s : State) : Host.Outcome State Fault Refusal :=
  .next (wrCycle Config.tables (writeFreqHi .v3 d) d s)

/-- `WR_V3.PW_LO`: the TICK, then the write of R83 in voice 3. -/
def execWrV3PwLo (d : Byte) (s : State) : Host.Outcome State Fault Refusal :=
  .next (wrCycle Config.tables (writePwLo .v3 d) d s)

/-- `WR_V3.PW_HI`: the TICK, then the write of R84 in voice 3. -/
def execWrV3PwHi (d : Byte) (s : State) : Host.Outcome State Fault Refusal :=
  .next (wrCycle Config.tables (writePwHi .v3 d) d s)

/-- `WR_V3.CONTROL`: the TICK, then the write of R85 to R87 and R114 to R116 in voice 3. -/
def execWrV3Control (d : Byte) (s : State) : Host.Outcome State Fault Refusal :=
  .next (wrCycle Config.tables (writeControl .v3 d) d s)

/-- `RD_OSC3`: the TICK, then the read of R103. -/
def execRdOsc3 (s : State) : Host.Outcome State Fault Refusal :=
  .next (rdCycle Config.tables (readOsc3 Config.tables) s)

end Sys2Proof.Machine
end

