-- ==== Sys2Proof/Machine/Dispatch.lean ====
section
/-! DEFINITION. The dispatch: one arm per operation, each one call of its meaning. -/

namespace Sys2Proof.Machine

/-- The effect of one operation in one clock cycle (R58, R175). -/
def exec (i : Instr) (s : State) : Host.Outcome State Fault Refusal :=
  match i with
  | .reset => Sys2Proof.Machine.execReset s
  | .idle => Sys2Proof.Machine.execIdle s
  | .wrV1FreqLo d => Sys2Proof.Machine.execWrV1FreqLo d s
  | .wrV1FreqHi d => Sys2Proof.Machine.execWrV1FreqHi d s
  | .wrV1PwLo d => Sys2Proof.Machine.execWrV1PwLo d s
  | .wrV1PwHi d => Sys2Proof.Machine.execWrV1PwHi d s
  | .wrV1Control d => Sys2Proof.Machine.execWrV1Control d s
  | .wrV1AttackDecay d => Sys2Proof.Machine.execWrV1AttackDecay d s
  | .wrV1SustainRelease d => Sys2Proof.Machine.execWrV1SustainRelease d s
  | .wrV2FreqLo d => Sys2Proof.Machine.execWrV2FreqLo d s
  | .wrV2FreqHi d => Sys2Proof.Machine.execWrV2FreqHi d s
  | .wrV2PwLo d => Sys2Proof.Machine.execWrV2PwLo d s
  | .wrV2PwHi d => Sys2Proof.Machine.execWrV2PwHi d s
  | .wrV2Control d => Sys2Proof.Machine.execWrV2Control d s
  | .wrV2AttackDecay d => Sys2Proof.Machine.execWrV2AttackDecay d s
  | .wrV2SustainRelease d => Sys2Proof.Machine.execWrV2SustainRelease d s
  | .wrV3FreqLo d => Sys2Proof.Machine.execWrV3FreqLo d s
  | .wrV3FreqHi d => Sys2Proof.Machine.execWrV3FreqHi d s
  | .wrV3PwLo d => Sys2Proof.Machine.execWrV3PwLo d s
  | .wrV3PwHi d => Sys2Proof.Machine.execWrV3PwHi d s
  | .wrV3Control d => Sys2Proof.Machine.execWrV3Control d s
  | .wrV3AttackDecay d => Sys2Proof.Machine.execWrV3AttackDecay d s
  | .wrV3SustainRelease d => Sys2Proof.Machine.execWrV3SustainRelease d s
  | .wrFcLo d => Sys2Proof.Machine.execWrFcLo d s
  | .wrFcHi d => Sys2Proof.Machine.execWrFcHi d s
  | .wrResFilt d => Sys2Proof.Machine.execWrResFilt d s
  | .wrModeVol d => Sys2Proof.Machine.execWrModeVol d s
  | .wrPotx d => Sys2Proof.Machine.execWrPotx d s
  | .wrPoty d => Sys2Proof.Machine.execWrPoty d s
  | .wrOsc3 d => Sys2Proof.Machine.execWrOsc3 d s
  | .wrEnv3 d => Sys2Proof.Machine.execWrEnv3 d s
  | .wrUnused1D d => Sys2Proof.Machine.execWrUnused1D d s
  | .wrUnused1E d => Sys2Proof.Machine.execWrUnused1E d s
  | .wrUnused1F d => Sys2Proof.Machine.execWrUnused1F d s
  | .rdV1FreqLo => Sys2Proof.Machine.execRdV1FreqLo s
  | .rdV1FreqHi => Sys2Proof.Machine.execRdV1FreqHi s
  | .rdV1PwLo => Sys2Proof.Machine.execRdV1PwLo s
  | .rdV1PwHi => Sys2Proof.Machine.execRdV1PwHi s
  | .rdV1Control => Sys2Proof.Machine.execRdV1Control s
  | .rdV1AttackDecay => Sys2Proof.Machine.execRdV1AttackDecay s
  | .rdV1SustainRelease => Sys2Proof.Machine.execRdV1SustainRelease s
  | .rdV2FreqLo => Sys2Proof.Machine.execRdV2FreqLo s
  | .rdV2FreqHi => Sys2Proof.Machine.execRdV2FreqHi s
  | .rdV2PwLo => Sys2Proof.Machine.execRdV2PwLo s
  | .rdV2PwHi => Sys2Proof.Machine.execRdV2PwHi s
  | .rdV2Control => Sys2Proof.Machine.execRdV2Control s
  | .rdV2AttackDecay => Sys2Proof.Machine.execRdV2AttackDecay s
  | .rdV2SustainRelease => Sys2Proof.Machine.execRdV2SustainRelease s
  | .rdV3FreqLo => Sys2Proof.Machine.execRdV3FreqLo s
  | .rdV3FreqHi => Sys2Proof.Machine.execRdV3FreqHi s
  | .rdV3PwLo => Sys2Proof.Machine.execRdV3PwLo s
  | .rdV3PwHi => Sys2Proof.Machine.execRdV3PwHi s
  | .rdV3Control => Sys2Proof.Machine.execRdV3Control s
  | .rdV3AttackDecay => Sys2Proof.Machine.execRdV3AttackDecay s
  | .rdV3SustainRelease => Sys2Proof.Machine.execRdV3SustainRelease s
  | .rdFcLo => Sys2Proof.Machine.execRdFcLo s
  | .rdFcHi => Sys2Proof.Machine.execRdFcHi s
  | .rdResFilt => Sys2Proof.Machine.execRdResFilt s
  | .rdModeVol => Sys2Proof.Machine.execRdModeVol s
  | .rdPotx => Sys2Proof.Machine.execRdPotx s
  | .rdPoty => Sys2Proof.Machine.execRdPoty s
  | .rdOsc3 => Sys2Proof.Machine.execRdOsc3 s
  | .rdEnv3 => Sys2Proof.Machine.execRdEnv3 s
  | .rdUnused1D => Sys2Proof.Machine.execRdUnused1D s
  | .rdUnused1E => Sys2Proof.Machine.execRdUnused1E s
  | .rdUnused1F => Sys2Proof.Machine.execRdUnused1F s

end Sys2Proof.Machine
end

