-- ==== Sys2Proof/Machine/Step.lean ====
section
/-! DEFINITION. One step: the core samples the pins of one clock cycle (R57), decodes the cycle word (R58) and performs
the operation. The core fetches nothing (R39): the host presents the words (log entry 1). -/

namespace Sys2Proof.Machine

/-- One clock cycle. -/
def step (s : State) : Host.Outcome State Fault Refusal := exec (decode s.nextPins.word) s.sampled

/-- `s` with the word `w` presented in the very next cycle, the inputs as they stand and everything else unchanged. -/
def State.withFetchWord (s : State) (nbits w : Nat) : State :=
  { s with pending := { word := BitVec.ofNat 16 (w % 2 ^ nbits), inputs := s.inputs } :: s.pending }

end Sys2Proof.Machine
end

