-- ==== Sys2Proof/Safety.lean ====
section
/-! DEFINITION. The terms claims are stated in: the invariants of R32 and R33, the side condition of R154 under which
32-bit hardware agrees with the rules, and the predicate "nothing but voice k differs". -/

namespace Sys2Proof.Machine

/-! ## Invariants of the state -/

/-- R32 for one waveform generator: under TEST the accumulator and the shift register are 0, otherwise the shift
register is not 0. The ranges of R32 are the fields' widths. -/
abbrev Osc.Inv (o : Osc) : Prop :=
  (o.test = true → o.acc = 0 ∧ o.lfsr = 0) ∧ (o.test = false → o.lfsr ≠ 0)

/-- R33 for one envelope generator. -/
abbrev Env.Inv (e : Env) : Prop :=
  (e.gate = false → e.envState = .release)
    ∧ (e.envState = .attack → e.gate = true ∧ e.expCounter = 0)
    ∧ e.expCounter.toNat < expPeriod (expIndex e)

/-- R32 and R33 for the three voices. -/
abbrev State.Inv (s : State) : Prop :=
  (s.voice1.osc.Inv ∧ s.voice1.env.Inv) ∧ (s.voice2.osc.Inv ∧ s.voice2.env.Inv)
    ∧ (s.voice3.osc.Inv ∧ s.voice3.env.Inv)

/-! ## The side condition of 32-bit hardware -/

/-- `x` fits a signed register of `STATE_W = 32` bits (R7, R154). -/
abbrev fitsStateW (x : Int) : Prop := -2147483648 ≤ x ∧ x ≤ 2147483647

/-- "every state and `Vint` stay within −2^31 .. 2^31 − 1" (R154, R170): where it fails, the rules, and this model,
still have a value, and 32-bit hardware is outside the spec (log entry 7). -/
abbrev State.Fits32 (T : Tables) (s : State) : Prop :=
  fitsStateW s.filter.vhp ∧ fitsStateW s.filter.vbp ∧ fitsStateW s.filter.vlp ∧ fitsStateW s.ext.vlpExt
    ∧ fitsStateW s.ext.vhpExt ∧ fitsStateW (internalOut T s)

/-! ## The write operations of a voice block (R61, R62) -/

/-- The address of a voice block's first register (R61). -/
def VoiceId.base : VoiceId → Nat
  | .v1 => 0
  | .v2 => 7
  | .v3 => 14

/-- WR Vk.FREQ_LO for voice `k`. -/
def VoiceId.wrFreqLo (d : Byte) : VoiceId → Instr
  | .v1 => .wrV1FreqLo d
  | .v2 => .wrV2FreqLo d
  | .v3 => .wrV3FreqLo d

/-- WR Vk.FREQ_HI for voice `k`. -/
def VoiceId.wrFreqHi (d : Byte) : VoiceId → Instr
  | .v1 => .wrV1FreqHi d
  | .v2 => .wrV2FreqHi d
  | .v3 => .wrV3FreqHi d

/-- WR Vk.PW_LO for voice `k`. -/
def VoiceId.wrPwLo (d : Byte) : VoiceId → Instr
  | .v1 => .wrV1PwLo d
  | .v2 => .wrV2PwLo d
  | .v3 => .wrV3PwLo d

/-- WR Vk.PW_HI for voice `k`. -/
def VoiceId.wrPwHi (d : Byte) : VoiceId → Instr
  | .v1 => .wrV1PwHi d
  | .v2 => .wrV2PwHi d
  | .v3 => .wrV3PwHi d

/-- WR Vk.CONTROL for voice `k`. -/
def VoiceId.wrControl (d : Byte) : VoiceId → Instr
  | .v1 => .wrV1Control d
  | .v2 => .wrV2Control d
  | .v3 => .wrV3Control d

/-- WR Vk.ATTACK_DECAY for voice `k`. -/
def VoiceId.wrAttackDecay (d : Byte) : VoiceId → Instr
  | .v1 => .wrV1AttackDecay d
  | .v2 => .wrV2AttackDecay d
  | .v3 => .wrV3AttackDecay d

/-- WR Vk.SUSTAIN_RELEASE for voice `k`. -/
def VoiceId.wrSustainRelease (d : Byte) : VoiceId → Instr
  | .v1 => .wrV1SustainRelease d
  | .v2 => .wrV2SustainRelease d
  | .v3 => .wrV3SustainRelease d

/-! ## Frames -/

/-- `t` differs from `u` in voice `k`, `busValue` and `dataOut` at most. -/
abbrev OnlyVoice (k : VoiceId) (u t : State) : Prop :=
  (∀ j, j ≠ k → t.voice j = u.voice j) ∧ t.filter = u.filter ∧ t.ext = u.ext ∧ t.straps = u.straps
    ∧ t.inputs = u.inputs ∧ t.pending = u.pending

end Sys2Proof.Machine
end

