-- ==== Sys2Proof/WellFormed.lean ====
section
/-! DEFINITION. Which terms are well formed. An `Instr` carries its data byte at the width of the pins, so every `Instr`
is one the core can be given (R74, R200); a script line carries numbers, whose ranges R76 states. -/

namespace Sys2Proof

/-- Every operation is well formed: its operands' types are exactly "addresses 0..31, bytes 0..255" (R200), "every data
byte is legal in every register" and "no encoding traps and none is undefined" (R74). -/
def Instr.wf (_ : Instr) : Bool := true

/-- "<reg> is a number 0..31 or a name" (R76); the three unused addresses have no name in R76's list. -/
def RegOperand.wf : RegOperand → Bool
  | .number n => decide (n < 32)
  | .name r => r.access != .noFunction

/-- "<byte> is a number 0..255" (R76). -/
def ScriptLine.wf : ScriptLine → Bool
  | .rst => true
  | .t _ => true
  | .w reg byte => reg.wf && decide (byte < 256)
  | .r reg => reg.wf

end Sys2Proof
end

