-- ==== Sys2Proof/Certificates/Slice0/Obligations.lean ====
section
/-! DEFINITION. The statements for the provers. `tick Config.tables s` is the state after the TICK of the cycle that
starts in `s`. Every cycle's order, the TICK first and then the bus operation (R175), is the spec's decision D4, and the
cycle word's layout its decision D3; the statements below that rest on them say so. -/

open Sys2Proof Sys2Proof.Machine

/-! ## The cycle word -/

/-- One step performs the operation of the word on the pins, in the state that has sampled them; with no cycle pending
the pins carry R28's defaults. The list of pending cycles is the model's own (log entries 1 and 2). -/
def Obligations.StepRunsTheWordOnThePins : Prop :=
  ∀ s : State,
    (∀ p rest, s.pending = p :: rest →
      step s = exec (decode p.word) { s with inputs := p.inputs, pending := rest })
    ∧ (s.pending = [] →
      step s = exec .idle { s with inputs := { extIn := 0#20, potX := 0xFF#8, potY := 0xFF#8 } })

/-- Words written out from R58 and from 95_test_vectors.md 2.1 and P1 to P5 (layout: decisions D3, D16). -/
def Obligations.SpecCycleWordsDecode : Prop :=
  decode 0x8000#16 = .reset ∧ decode 0xFFFF#16 = .reset ∧ decode 0x0000#16 = .idle ∧ decode 0x3FFF#16 = .idle
    ∧ decode 0x4421#16 = .wrV1Control 0x21#8 ∧ decode 0x4840#16 = .wrV2FreqHi 0x40#8
    ∧ decode 0x5480#16 = .wrV3SustainRelease 0x80#8 ∧ decode 0x581F#16 = .wrModeVol 0x1F#8
    ∧ decode 0x5F55#16 = .wrUnused1F 0x55#8 ∧ decode 0x7B00#16 = .rdOsc3 ∧ decode 0x7BFF#16 = .rdOsc3
    ∧ decode 0x7C00#16 = .rdEnv3 ∧ decode 0x6000#16 = .rdV1FreqLo

/-- Decoding inverts encoding for every operation and every data byte (R57, R58, R73; layout: decision D3). -/
def Obligations.DecodeInvertsEncode : Prop :=
  ∀ i : Instr, i.wf = true → decode (encode i) = i

/-- Encoding what a word decodes to gives the word with its don't-care bits zero (R57, R58, R74 d and e; decision D3). -/
def Obligations.EncodeOfDecodeIsCanonical : Prop :=
  ∀ w : CycleWord,
    encode (decode w) =
      if w.getLsbD 15 then 0x8000#16
      else if w.getLsbD 14 = false then 0x0000#16
      else if w.getLsbD 13 then w &&& 0xFF00#16
      else w

/-- The 66 rows of the opcode table partition the 65536 words, and each word's row is its operation's (R58, R78;
decision D3). -/
def Obligations.EveryWordMatchesExactlyOneRow : Prop :=
  ∀ w : CycleWord, (opcodeTable.filter fun r => r.covers w).map (fun r => r.mnemonic) = [(decode w).mnemonic]

/-- R189: every operation succeeds in its cycle from every state, and so does every sequence of cycles. -/
def Obligations.EveryOperationCompletes : Prop :=
  (∀ (i : Instr) (s : State), ∃ t, exec i s = .next t)
    ∧ ∀ (n : Nat) (s : Sys2Proof.core.State), ∃ t, Host.Core.run Sys2Proof.core n s = .next t

/-! ## RESET and IDLE -/

/-- RESET gives every field R213's value, keeps straps, inputs and what is still to be presented, and a second RESET
changes nothing. The register fields' values, `env_state`, `bus_value` and the absence of a TICK are the spec's
decisions D5, D6, D7 and D27; that DATA_OUT is then not valid and that the list of pending cycles stays is the model's
choice (log entries 3 and 1). -/
def Obligations.ResetSetsEveryField : Prop :=
  ∀ s : State, ∃ t, exec .reset s = .next t
    ∧ (∀ k, (t.voice k).osc =
          { freq := 0, pw := 0, waveform := 0, test := false, ringMod := false, sync := false, acc := 0,
            lfsr := 0x7FFFF8#23, msbRising := false }
        ∧ (t.voice k).env =
          { attack := 0, decay := 0, sustain := 0, release := 0, gate := false, envelopeCounter := 0,
            rateCounter := 0, expCounter := 0, envState := .release })
    ∧ t.filter =
        { fc := 0, res := 0, filt := 0, voice3off := false, hp := false, bp := false, lp := false, vol := 0,
          vhp := 0, vbp := 0, vlp := 0 }
    ∧ t.ext = { vlpExt := 0, vhpExt := 0 } ∧ t.busValue = 0 ∧ t.dataOut = none
    ∧ t.straps = s.straps ∧ t.inputs = s.inputs ∧ t.pending = s.pending
    ∧ exec .reset t = .next t

/-- Right after RESET, whatever the straps and inputs: AUDIO_OUT is 0, OSC3 and ENV3 read 0, POTX and POTY read their
inputs, every other address reads 0 (R214; rests on decisions D6 and D27). -/
def Obligations.ResetOutputs : Prop :=
  ∀ s : State, ∃ t, exec .reset s = .next t
    ∧ audioOut Config.tables t = 0
    ∧ ∀ a : Addr, readReg Config.tables a t =
        if a.toNat = 25 then s.inputs.potX else if a.toNat = 26 then s.inputs.potY else 0

/-- IDLE completes with the TICK and nothing else; DATA_OUT is not valid in it (R174, R175; decisions D1 and D4, log
entry 3). -/
def Obligations.IdleIsOneTick : Prop :=
  ∀ s : State, exec .idle s = .next { tick Config.tables s with dataOut := none }

/-! ## TICK as a whole -/

/-- "a TICK reads no bus field and changes no register field" (R174, corner cases): the register fields, the bus byte,
the straps and the inputs are unchanged (the model's own fields too: log entries 1 and 3). -/
def Obligations.TickLeavesRegistersAlone : Prop :=
  ∀ (T : Tables) (s : State),
    (∀ k,
      ((tick T s).voice k).osc.freq = (s.voice k).osc.freq ∧ ((tick T s).voice k).osc.pw = (s.voice k).osc.pw
      ∧ ((tick T s).voice k).osc.waveform = (s.voice k).osc.waveform
      ∧ ((tick T s).voice k).osc.test = (s.voice k).osc.test
      ∧ ((tick T s).voice k).osc.ringMod = (s.voice k).osc.ringMod
      ∧ ((tick T s).voice k).osc.sync = (s.voice k).osc.sync
      ∧ ((tick T s).voice k).env.attack = (s.voice k).env.attack
      ∧ ((tick T s).voice k).env.decay = (s.voice k).env.decay
      ∧ ((tick T s).voice k).env.sustain = (s.voice k).env.sustain
      ∧ ((tick T s).voice k).env.release = (s.voice k).env.release
      ∧ ((tick T s).voice k).env.gate = (s.voice k).env.gate)
    ∧ (tick T s).filter =
        { s.filter with vhp := (tick T s).filter.vhp, vbp := (tick T s).filter.vbp, vlp := (tick T s).filter.vlp }
    ∧ (tick T s).busValue = s.busValue ∧ (tick T s).straps = s.straps ∧ (tick T s).inputs = s.inputs
    ∧ (tick T s).pending = s.pending ∧ (tick T s).dataOut = s.dataOut

/-- "after reset, one TICK gives rate_counter = 1 in each voice and nothing else changes" (R174's example), for every
strap setting, every input and every table. -/
def Obligations.FirstTickAfterReset : Prop :=
  ∀ (T : Tables) (p : Straps) (x : Inputs),
    tick T { State.reset with straps := p, inputs := x } =
      { State.reset with
        straps := p
        inputs := x
        voice1 := { Voice.atReset with env := { Env.atReset with rateCounter := 1 } }
        voice2 := { Voice.atReset with env := { Env.atReset with rateCounter := 1 } }
        voice3 := { Voice.atReset with env := { Env.atReset with rateCounter := 1 } } }

/-- `clock(Δt)` is additive and `clock(0)` leaves the state unchanged (R180; that `clock(1)` is a TICK is decision D1). -/
def Obligations.ClockIsAdditive : Prop :=
  ∀ (T : Tables) (a b : Nat) (s : State), clock T 0 s = s ∧ clock T 1 s = tick T s
    ∧ clock T b (clock T a s) = clock T (a + b) s

/-! ## Waveform generator -/

/-- R88 and R91: phase A with TEST clear, in numbers, with the examples V-ACC-1 and V-ACC-2's. -/
def Obligations.AccumulatePhaseWithTestClear : Prop :=
  (∀ o : Osc, o.test = false →
    (phaseA o).acc.toNat = (o.acc.toNat + o.freq.toNat) % 2 ^ 24
    ∧ (phaseA o).lfsr =
        (if o.acc.toNat / 2 ^ 19 % 2 = 0 ∧ (phaseA o).acc.toNat / 2 ^ 19 % 2 = 1 then lfsrStep o.lfsr else o.lfsr)
    ∧ ((phaseA o).msbRising = true ↔ o.acc.toNat < 2 ^ 23 ∧ 2 ^ 23 ≤ (phaseA o).acc.toNat)
    ∧ phaseA o =
        { o with acc := (phaseA o).acc, lfsr := (phaseA o).lfsr, msbRising := (phaseA o).msbRising }
    ∧ (o.freq = 0 → (phaseA o).acc = o.acc ∧ (phaseA o).lfsr = o.lfsr))
  ∧ ∀ o : Osc, o.test = false → o.acc = 0xFFF000#24 → o.freq = 0x2000#16 →
    (phaseA o).acc = 0x001000#24 ∧ (phaseA o).msbRising = false ∧ (phaseA o).lfsr = o.lfsr

/-- The feedback shift of R90 in numbers, that it is 0 only for 0, and the values of V-LFSR-1 and V-LFSR-2. -/
def Obligations.LfsrStepIsTheFeedbackShift : Prop :=
  (∀ l : BitVec 23,
    (lfsrStep l).toNat = l.toNat * 2 % 2 ^ 23 + (l.toNat / 2 ^ 22 + l.toNat / 2 ^ 17) % 2
    ∧ (lfsrStep l = 0 ↔ l = 0))
  ∧ lfsrStep 0x7FFFF8#23 = 0x7FFFF0#23 ∧ lfsrStep 0x7C0000#23 = 0x780001#23
  ∧ lfsrStep 0x400000#23 = 0x000001#23 ∧ lfsrStep 0x020000#23 = 0x040001#23 ∧ lfsrStep 0x420000#23 = 0x040000#23

/-- The noise register's sequence from 0x7FFFF8 has period exactly 2^23 − 1 (R90, V-LFSR-3). -/
def Obligations.NoiseSequencePeriod : Prop :=
  lfsrStep^[8388607] 0x7FFFF8#23 = 0x7FFFF8#23
    ∧ ∀ n : Nat, 0 < n → n < 8388607 → lfsrStep^[n] 0x7FFFF8#23 ≠ 0x7FFFF8#23

/-- One TICK of voice `k`'s oscillator, in numbers, for every state: the accumulator advances (or stands, under TEST) and
is cleared by hard sync exactly when the source's own advance carries its MSB from 0 to 1 in the same TICK; the noise
register and `msb_rising` follow the advance, not the sync (R88, R92, R93, R94; the flag under TEST is decision D12). -/
def Obligations.OscillatorTick : Prop :=
  ∀ (T : Tables) (s : State) (k : VoiceId),
    let o := (s.voice k).osc
    let q := (s.voice k.src).osc
    let r := ((tick T s).voice k).osc
    let adv := if o.test then o.acc.toNat else (o.acc.toNat + o.freq.toNat) % 2 ^ 24
    r.acc.toNat =
        (if o.sync = true ∧ q.test = false ∧ q.acc.toNat < 2 ^ 23 ∧ 2 ^ 23 ≤ q.acc.toNat + q.freq.toNat then 0
         else adv)
      ∧ r.lfsr =
        (if o.acc.toNat / 2 ^ 19 % 2 = 0 ∧ adv / 2 ^ 19 % 2 = 1 then lfsrStep o.lfsr else o.lfsr)
      ∧ (r.msbRising = true ↔ o.acc.toNat < 2 ^ 23 ∧ 2 ^ 23 ≤ adv)

/-- `n` steps of phase A at once: the accumulator and the number of noise steps as R104 gives them. -/
def Obligations.BulkAccumulation : Prop :=
  ∀ (o : Osc) (n : Nat), o.test = false →
    let c := ((o.acc.toNat : Int) + n * o.freq.toNat - 2 ^ 19) / 2 ^ 20 - ((o.acc.toNat : Int) - 2 ^ 19) / 2 ^ 20
    (phaseA^[n] o).acc.toNat = (o.acc.toNat + n * o.freq.toNat) % 2 ^ 24
      ∧ 0 ≤ c ∧ (phaseA^[n] o).lfsr = lfsrStep^[c.toNat] o.lfsr

/-- R98 and R99: sawtooth and pulse, with their corner cases and examples. -/
def Obligations.SawtoothAndPulseOutputs : Prop :=
  ∀ (T : Tables) (s : State) (k : VoiceId),
    ((s.voice k).osc.waveform = 0b0010#4 →
        (waveOut T s k).toNat = (s.voice k).osc.acc.toNat / 2 ^ 12
        ∧ ((s.voice k).osc.acc = 0xABCDEF#24 → waveOut T s k = 0xABC#12))
    ∧ ((s.voice k).osc.waveform = 0b0100#4 →
        waveOut T s k = (if (s.voice k).osc.acc.toNat / 2 ^ 12 ≥ (s.voice k).osc.pw.toNat then 0xFFF#12 else 0x000#12)
        ∧ ((s.voice k).osc.pw = 0 → waveOut T s k = 0xFFF#12)
        ∧ ((s.voice k).osc.pw = 0xFFF#12 →
            (waveOut T s k = 0xFFF#12 ↔ (s.voice k).osc.acc.toNat / 2 ^ 12 = 0xFFF))
        ∧ ((s.voice k).osc.acc = 0 → (waveOut T s k = 0xFFF#12 ↔ (s.voice k).osc.pw = 0))
        ∧ ((s.voice k).osc.pw = 0x800#12 →
            ((s.voice k).osc.acc = 0x7FFFFF#24 → waveOut T s k = 0x000#12)
            ∧ ((s.voice k).osc.acc = 0x800000#24 → waveOut T s k = 0xFFF#12)))

/-- R97: the triangle, its ring modulation by bit 23 of the sync source's accumulator, the examples, and that `ring_mod`
has an effect on no other waveform. -/
def Obligations.TriangleAndRingModulation : Prop :=
  (∀ (T : Tables) (s : State) (k : VoiceId), (s.voice k).osc.waveform = 0b0001#4 →
    let o := (s.voice k).osc
    let q := (s.voice k.src).osc
    let m := (o.acc.toNat / 2 ^ 23 + (if o.ringMod then q.acc.toNat / 2 ^ 23 else 0)) % 2
    (waveOut T s k).toNat =
        (if m = 1 then 0xFFF - o.acc.toNat / 2 ^ 11 % 2 ^ 12 else o.acc.toNat / 2 ^ 11 % 2 ^ 12)
      ∧ (o.ringMod = false →
          (o.acc = 0x200000#24 → waveOut T s k = 0x400#12) ∧ (o.acc = 0x7FFFFF#24 → waveOut T s k = 0xFFF#12)
          ∧ (o.acc = 0x800000#24 → waveOut T s k = 0xFFF#12) ∧ (o.acc = 0xC00000#24 → waveOut T s k = 0x7FF#12)
          ∧ (o.acc = 0xFFFFFF#24 → waveOut T s k = 0x000#12))
      ∧ (o.ringMod = true → q.acc.toNat ≥ 2 ^ 23 →
          (o.acc = 0x200000#24 → waveOut T s k = 0xBFF#12) ∧ (o.acc = 0xC00000#24 → waveOut T s k = 0x800#12)))
  ∧ ∀ (T : Tables) (s : State) (k : VoiceId) (b : Bool), (s.voice k).osc.waveform ≠ 0b0001#4 →
      waveOut T (s.updOsc k fun o => { o with ringMod := b }) k = waveOut T s k

/-- The noise output gathers taps 22, 20, 16, 13, 11, 7, 4, 2 into bits 11 to 4 and leaves bits 3 to 0 clear (R100; the
order is decision D13); no waveform selected gives 0 (R96; decision D14). -/
def Obligations.NoiseOutputTaps : Prop :=
  ∀ (T : Tables) (s : State) (k : VoiceId),
    ((s.voice k).osc.waveform = 0b0000#4 → waveOut T s k = 0)
    ∧ ((s.voice k).osc.waveform = 0b1000#4 →
      ∀ i : Nat, (waveOut T s k).getLsbD i =
        match i with
        | 11 => (s.voice k).osc.lfsr.getLsbD 22
        | 10 => (s.voice k).osc.lfsr.getLsbD 20
        | 9 => (s.voice k).osc.lfsr.getLsbD 16
        | 8 => (s.voice k).osc.lfsr.getLsbD 13
        | 7 => (s.voice k).osc.lfsr.getLsbD 11
        | 6 => (s.voice k).osc.lfsr.getLsbD 7
        | 5 => (s.voice k).osc.lfsr.getLsbD 4
        | 4 => (s.voice k).osc.lfsr.getLsbD 2
        | _ => false)

/-- The combined waveforms for every choice of tables: the index, the shift by four and the pulse mask (R101; index and
scaling are decision D15), so that bits 3 to 0 are always clear. -/
def Obligations.CombinedWaveformLookup : Prop :=
  ∀ (T : Tables) (s : State) (k : VoiceId),
    let o := (s.voice k).osc
    let m := s.straps.chipModel
    let hi := BitVec.ofNat 12 (o.acc.toNat / 2 ^ 12)
    let lo := BitVec.ofNat 12 (o.acc.toNat / 2 ^ 11 % 2 ^ 12)
    let high := decide (o.pw.toNat ≤ o.acc.toNat / 2 ^ 12)
    (o.waveform = 0b0011#4 → (waveOut T s k).toNat = (T.waveST m lo).toNat * 16)
      ∧ (o.waveform = 0b0101#4 → (waveOut T s k).toNat = if high then (T.wavePT m lo).toNat * 16 else 0)
      ∧ (o.waveform = 0b0110#4 → (waveOut T s k).toNat = if high then (T.wavePS m hi).toNat * 16 else 0)
      ∧ (o.waveform = 0b0111#4 → (waveOut T s k).toNat = if high then (T.wavePST m lo).toNat * 16 else 0)

/-- R102: noise selected with any other waveform gives 0, and the noise register is not disturbed: it steps as under any
other selector. -/
def Obligations.NoiseCombinationsAreSilent : Prop :=
  ∀ (T : Tables) (s : State) (k : VoiceId),
    (9 ≤ (s.voice k).osc.waveform.toNat → waveOut T s k = 0)
    ∧ ∀ w : BitVec 4,
        ((tick T (s.updOsc k fun o => { o with waveform := w })).voice k).osc.lfsr = ((tick T s).voice k).osc.lfsr

/-- `wave_out(k)` depends on nothing but the fields R95 lists: two states that agree on them (and on the chip model, for
the tables) have the same output, whatever else differs. -/
def Obligations.WaveOutDependsOnItsArguments : Prop :=
  ∀ (T : Tables) (s t : State) (k : VoiceId),
    (t.voice k).osc.acc = (s.voice k).osc.acc → (t.voice k).osc.lfsr = (s.voice k).osc.lfsr →
    (t.voice k).osc.pw = (s.voice k).osc.pw → (t.voice k).osc.waveform = (s.voice k).osc.waveform →
    (t.voice k).osc.ringMod = (s.voice k).osc.ringMod →
    (t.voice k.src).osc.acc.getLsbD 23 = (s.voice k.src).osc.acc.getLsbD 23 →
    t.straps.chipModel = s.straps.chipModel →
    waveOut T t k = waveOut T s k

/-! ## Envelope generator -/

/-- The constant tables: `rate_period`, the periods and floors of the segments, `sustain_level`, and `exp_segment[c]` "is
the least `s` with `c > exp_level[s]`, and 5 if there is none" (R117 to R120; boundaries: decision D10; the entries of
`sustain_level` the source elides: decision D34). -/
def Obligations.EnvelopeTables : Prop :=
  ((List.range 16).map fun i => ratePeriod (BitVec.ofNat 4 i)) =
      [9, 32, 63, 95, 149, 220, 267, 313, 392, 977, 1954, 3126, 3906, 11720, 19532, 31252]
    ∧ (List.finRange 6).map expLevel = [0x5D, 0x36, 0x1A, 0x0E, 0x06, 0x00]
    ∧ (List.finRange 6).map expPeriod = [1, 2, 4, 8, 16, 30]
    ∧ ((List.range 16).map fun i => sustainLevel (BitVec.ofNat 4 i)) =
      [0x00, 0x11, 0x22, 0x33, 0x44, 0x55, 0x66, 0x77, 0x88, 0x99, 0xAA, 0xBB, 0xCC, 0xDD, 0xEE, 0xFF]
    ∧ ∀ (c : Byte) (g : Fin 6), expSegment c = g ↔
        (g = 5 ∨ expLevel g < c.toNat) ∧ ∀ h : Fin 6, h < g → c.toNat ≤ expLevel h

/-- The rate divider in one TICK, whatever `test`, `waveform` and `gate` are: on a match the counter restarts at 0,
otherwise it counts modulo 2^15 and neither the sub-counter nor the envelope moves (R121; compare point: decision D8). -/
def Obligations.RateDividerTick : Prop :=
  ∀ (T : Tables) (s : State) (k : VoiceId),
    let e := (s.voice k).env
    let r := ((tick T s).voice k).env
    let idx := match e.envState with | .attack => e.attack | .decaySustain => e.decay | .release => e.release
    (e.rateCounter.toNat = ratePeriod idx - 1 → r.rateCounter = 0)
      ∧ (e.rateCounter.toNat ≠ ratePeriod idx - 1 →
          r.rateCounter.toNat = (e.rateCounter.toNat + 1) % 2 ^ 15 ∧ r.expCounter = e.expCounter
          ∧ r.envelopeCounter = e.envelopeCounter)

/-- The exponential sub-counter and the envelope counter in a TICK whose rate counter matches: the sub-counter counts to
the period of the envelope's segment (1 in ATTACK), and only then the envelope moves: up to at most 0xFF in ATTACK, down
to the sustain level in DECAY_SUSTAIN and to 0 in RELEASE (R118 to R120, R122, R123; decisions D9 and D10). -/
def Obligations.EnvelopeTickOnRateMatch : Prop :=
  ∀ (T : Tables) (s : State) (k : VoiceId),
    let e := (s.voice k).env
    let r := ((tick T s).voice k).env
    let c := e.envelopeCounter.toNat
    let period : Nat :=
      if e.envState = .attack then 1
      else if c ≤ 0x06 then 30 else if c ≤ 0x0E then 16 else if c ≤ 0x1A then 8 else if c ≤ 0x36 then 4
      else if c ≤ 0x5D then 2 else 1
    e.rateCounter.toNat = ratePeriod (rateIndex e) - 1 →
      ((e.expCounter.toNat + 1) % 32 ≠ period →
        r.expCounter.toNat = (e.expCounter.toNat + 1) % 32 ∧ r.envelopeCounter = e.envelopeCounter)
      ∧ ((e.expCounter.toNat + 1) % 32 = period →
        r.expCounter = 0
        ∧ (e.envState = .attack → r.envelopeCounter.toNat = min 255 (c + 1))
        ∧ (e.envState = .decaySustain →
            r.envelopeCounter.toNat = if e.sustain.toNat * 0x11 < c then c - 1 else c)
        ∧ (e.envState = .release → r.envelopeCounter.toNat = c - 1))

/-- The end of a TICK turns ATTACK into DECAY_SUSTAIN exactly when the envelope stands at 0xFF; a TICK makes no other
transition (R113, R125; decision D11). -/
def Obligations.AttackEndsAtFullLevel : Prop :=
  ∀ (T : Tables) (s : State) (k : VoiceId),
    let e := (s.voice k).env
    let r := ((tick T s).voice k).env
    r.envState = if e.envState = .attack ∧ r.envelopeCounter.toNat = 0xFF then .decaySustain else e.envState

/-- Outside RESET no operation moves an envelope by more than one, none lowers it in ATTACK and none raises it in the
other states (R20, R128 a). -/
def Obligations.EnvelopeIsMonotone : Prop :=
  ∀ (i : Instr) (s t : State) (k : VoiceId), i ≠ .reset → exec i s = .next t →
    let c := (s.voice k).env.envelopeCounter.toNat
    let c' := (t.voice k).env.envelopeCounter.toNat
    c' ≤ c + 1 ∧ c ≤ c' + 1
      ∧ ((s.voice k).env.envState = .attack → c ≤ c')
      ∧ ((s.voice k).env.envState ≠ .attack → c' ≤ c)

/-- No write and no gate transition touches a rate counter: outside RESET it is what the TICK leaves (R21, R124). -/
def Obligations.RateCounterIsOnlyTicked : Prop :=
  ∀ (i : Instr) (s : State), i ≠ .reset → ∃ t, exec i s = .next t
    ∧ ∀ k, (t.voice k).env.rateCounter = ((tick Config.tables s).voice k).env.rateCounter

/-- The ADSR delay bug (R124, R127; compare point: decision D8): from any state, with no register write, the rate counter
first restarts in the TICK numbered `n`, `n` as R124 gives it, counting modulo 2^15 until then, and until then neither
the sub-counter nor the envelope moves. The one state excepted is R127's: ATTACK already at 0xFF. -/
def Obligations.AdsrDelayBug : Prop :=
  ∀ (T : Tables) (s : State) (k : VoiceId),
    let e := (s.voice k).env
    let r := e.rateCounter.toNat
    let p := ratePeriod (rateIndex e)
    let n := if r ≤ p - 1 then p - r else (0x8000 - r) + p
    ¬(e.envState = .attack ∧ e.envelopeCounter.toNat = 0xFF) →
      (∀ m, m < n →
        ((clock T m s).voice k).env.rateCounter.toNat = (r + m) % 2 ^ 15
        ∧ ((clock T m s).voice k).env.expCounter = e.expCounter
        ∧ ((clock T m s).voice k).env.envelopeCounter = e.envelopeCounter)
      ∧ ((clock T (n - 1) s).voice k).env.rateCounter.toNat = p - 1
      ∧ ((clock T n s).voice k).env.rateCounter.toNat = 0

/-- A full attack from 0 with both counters at 0 takes exactly 255 × `rate_period[attack]` TICKs: 0xFF is reached, in
DECAY_SUSTAIN, in that TICK and not before (R128 c, R228; decisions D8, D9, D11). -/
def Obligations.FullAttackTime : Prop :=
  ∀ (T : Tables) (s : State) (k : VoiceId),
    (s.voice k).env.envState = .attack → (s.voice k).env.envelopeCounter = 0 → (s.voice k).env.rateCounter = 0 →
    (s.voice k).env.expCounter = 0 →
    let n := 255 * ratePeriod (s.voice k).env.attack
    ((clock T n s).voice k).env.envelopeCounter.toNat = 255
      ∧ ((clock T n s).voice k).env.envState = .decaySustain
      ∧ ∀ m, m < n →
          ((clock T m s).voice k).env.envelopeCounter.toNat = m / ratePeriod (s.voice k).env.attack
          ∧ ((clock T m s).voice k).env.envState = .attack

/-- A full release from 0xFF with both counters at 0 takes exactly 756 × `rate_period[release]` TICKs, and the envelope
then rests at 0 (R123, R228; decisions D8, D9, D10). -/
def Obligations.FullReleaseTime : Prop :=
  ∀ (T : Tables) (s : State) (k : VoiceId),
    (s.voice k).env.envState = .release → (s.voice k).env.envelopeCounter = 0xFF#8 →
    (s.voice k).env.rateCounter = 0 → (s.voice k).env.expCounter = 0 →
    let n := 756 * ratePeriod (s.voice k).env.release
    (∀ m, m < n → 0 < ((clock T m s).voice k).env.envelopeCounter.toNat)
      ∧ ∀ m, n ≤ m → ((clock T m s).voice k).env.envelopeCounter.toNat = 0

/-- The transitions of the ADSR state machine, over all operations: into ATTACK only by a CONTROL write of that voice
that raises its gate, out of ATTACK to DECAY_SUSTAIN only at 0xFF, into RELEASE only by a CONTROL write that lowers the
gate or by RESET; otherwise the state stays (R113). -/
def Obligations.AdsrTransitions : Prop :=
  ∀ (i : Instr) (s t : State) (k : VoiceId), exec i s = .next t →
    let e := (s.voice k).env
    let e' := (t.voice k).env
    let isControl (g : Bool) : Prop := ∃ d : Byte, d.getLsbD 0 = g ∧
      i = k.wrControl d
    (e'.envState ≠ e.envState →
      (e'.envState = .attack ∧ e.gate = false ∧ isControl true)
      ∨ (e.envState = .attack ∧ e'.envState = .decaySustain ∧ e'.envelopeCounter.toNat = 0xFF)
      ∨ (e'.envState = .release ∧ e.gate = true ∧ isControl false)
      ∨ (e'.envState = .release ∧ i = .reset))
    ∧ (e'.gate ≠ e.gate → isControl e'.gate ∨ i = .reset)

/-! ## Register writes and reads -/

/-- R81 to R84 for the source's register write: the address of each register, the byte it replaces and the part it
keeps, nothing else but `bus_value`, and the examples (addresses: decision D16; `bus_value`: D27; that DATA_OUT stays as
it was: log entry 3). `writeReg` runs no TICK, so what the next TICK uses is the new value. -/
def Obligations.FrequencyAndPulseWidthRegisters : Prop :=
  (∀ (k : VoiceId) (d : Byte) (s : State),
    let o := (s.voice k).osc
    let v (n : Nat) := (writeReg (BitVec.ofNat 5 (k.base + n)) d s).voice k
    (∀ n, n < 4 → OnlyVoice k s (writeReg (BitVec.ofNat 5 (k.base + n)) d s)
      ∧ (writeReg (BitVec.ofNat 5 (k.base + n)) d s).busValue = d
      ∧ (writeReg (BitVec.ofNat 5 (k.base + n)) d s).dataOut = s.dataOut)
    ∧ (v 0).osc.freq.toNat = o.freq.toNat / 256 * 256 + d.toNat
    ∧ v 0 = { s.voice k with osc := { o with freq := (v 0).osc.freq } }
    ∧ (v 1).osc.freq.toNat = d.toNat * 256 + o.freq.toNat % 256
    ∧ v 1 = { s.voice k with osc := { o with freq := (v 1).osc.freq } }
    ∧ (v 2).osc.pw.toNat = o.pw.toNat / 256 * 256 + d.toNat
    ∧ v 2 = { s.voice k with osc := { o with pw := (v 2).osc.pw } }
    ∧ (v 3).osc.pw.toNat = d.toNat % 16 * 256 + o.pw.toNat % 256
    ∧ v 3 = { s.voice k with osc := { o with pw := (v 3).osc.pw } })
  ∧ ∀ s : State,
    (s.voice1.osc.freq = 0x1234#16 → (writeReg 0#5 0xFF#8 s).voice1.osc.freq = 0x12FF#16)
    ∧ (s.voice1.osc.freq = 0 → (writeReg 1#5 0x10#8 (writeReg 0#5 0x00#8 s)).voice1.osc.freq = 0x1000#16)
    ∧ (s.voice2.osc.pw = 0x800#12 → (writeReg 9#5 0x34#8 s).voice2.osc.pw = 0x834#12)
    ∧ (s.voice2.osc.pw = 0x034#12 → (writeReg 10#5 0xF8#8 s).voice2.osc.pw = 0x834#12)
    ∧ (writeReg 10#5 0xF8#8 s).voice2.osc.pw = (writeReg 10#5 0x08#8 s).voice2.osc.pw

/-- The FREQ and PW operations of each voice complete: the TICK, then the byte into its half of the field, `bus_value`
the byte, DATA_OUT not valid, nothing else (R81 to R84 within a cycle; decisions D4, D16, D27; DATA_OUT: log entry 3). -/
def Obligations.FrequencyAndPulseWidthWrites : Prop :=
  ∀ (k : VoiceId) (d : Byte) (s : State),
    let u := tick Config.tables s
    let o := (u.voice k).osc
    let done (i : Instr) (P : State → Prop) : Prop :=
      ∃ t, exec i s = .next t ∧ P t ∧ t.busValue = d ∧ t.dataOut = none ∧ OnlyVoice k u t
    done (k.wrFreqLo d) (fun t =>
        (t.voice k).osc.freq.toNat = o.freq.toNat / 256 * 256 + d.toNat
        ∧ t.voice k = { u.voice k with osc := { o with freq := (t.voice k).osc.freq } })
      ∧ done (k.wrFreqHi d) (fun t =>
        (t.voice k).osc.freq.toNat = d.toNat * 256 + o.freq.toNat % 256
        ∧ t.voice k = { u.voice k with osc := { o with freq := (t.voice k).osc.freq } })
      ∧ done (k.wrPwLo d) (fun t =>
        (t.voice k).osc.pw.toNat = o.pw.toNat / 256 * 256 + d.toNat
        ∧ t.voice k = { u.voice k with osc := { o with pw := (t.voice k).osc.pw } })
      ∧ done (k.wrPwHi d) (fun t =>
        (t.voice k).osc.pw.toNat = d.toNat % 16 * 256 + o.pw.toNat % 256
        ∧ t.voice k = { u.voice k with osc := { o with pw := (t.voice k).osc.pw } })

/-- The CONTROL operation of each voice completes: the TICK, then the fields of the byte, the TEST actions on a
transition only, the gate actions on a transition only, `rate_counter` and `envelope_counter` kept, and nothing else
(R85 to R87, R114 to R116 within a cycle; decisions D4, D12, D27, D35, D36; that DATA_OUT is then not valid: log entry
3). -/
def Obligations.ControlWrites : Prop :=
  ∀ (k : VoiceId) (d : Byte) (s : State),
    let u := tick Config.tables s
    let o := (u.voice k).osc
    let e := (u.voice k).env
    ∃ t, exec (k.wrControl d) s = .next t
      ∧ t.busValue = d ∧ t.dataOut = none ∧ OnlyVoice k u t
      ∧ (t.voice k).osc.waveform.toNat = d.toNat / 16 ∧ (t.voice k).osc.test = d.getLsbD 3
      ∧ (t.voice k).osc.ringMod = d.getLsbD 2 ∧ (t.voice k).osc.sync = d.getLsbD 1
      ∧ (t.voice k).osc.freq = o.freq ∧ (t.voice k).osc.pw = o.pw
      ∧ (o.test = false → d.getLsbD 3 = true →
          (t.voice k).osc.acc = 0 ∧ (t.voice k).osc.lfsr = 0 ∧ (t.voice k).osc.msbRising = false)
      ∧ (o.test = true → d.getLsbD 3 = false →
          (t.voice k).osc.acc = o.acc ∧ (t.voice k).osc.lfsr = 0x7FFFF8#23
          ∧ (t.voice k).osc.msbRising = o.msbRising)
      ∧ (o.test = d.getLsbD 3 →
          (t.voice k).osc.acc = o.acc ∧ (t.voice k).osc.lfsr = o.lfsr ∧ (t.voice k).osc.msbRising = o.msbRising)
      ∧ (e.gate = false → d.getLsbD 0 = true →
          (t.voice k).env = { e with gate := true, envState := .attack, expCounter := 0 })
      ∧ (e.gate = true → d.getLsbD 0 = false →
          (t.voice k).env = { e with gate := false, envState := .release, expCounter := 0 })
      ∧ (e.gate = d.getLsbD 0 → (t.voice k).env = e)

/-- The ATTACK_DECAY and SUSTAIN_RELEASE operations of each voice complete: the TICK, then the two nibbles, `bus_value`
the byte, and nothing else; no counter and no state of the envelope is touched (R111, R112 within a cycle; decisions D4,
D27; that DATA_OUT is then not valid: log entry 3). -/
def Obligations.EnvelopeRegisterWrites : Prop :=
  ∀ (k : VoiceId) (d : Byte) (s : State),
    let u := tick Config.tables s
    (∃ t, exec (k.wrAttackDecay d) s = .next t
        ∧ t.busValue = d ∧ t.dataOut = none ∧ OnlyVoice k u t
        ∧ (t.voice k).env.attack.toNat = d.toNat / 16 ∧ (t.voice k).env.decay.toNat = d.toNat % 16
        ∧ t.voice k =
          { u.voice k with
            env := { (u.voice k).env with attack := (t.voice k).env.attack, decay := (t.voice k).env.decay } })
      ∧ ∃ t, exec (k.wrSustainRelease d) s = .next t
        ∧ t.busValue = d ∧ t.dataOut = none ∧ OnlyVoice k u t
        ∧ (t.voice k).env.sustain.toNat = d.toNat / 16 ∧ (t.voice k).env.release.toNat = d.toNat % 16
        ∧ t.voice k =
          { u.voice k with
            env := { (u.voice k).env with sustain := (t.voice k).env.sustain, release := (t.voice k).env.release } }

/-- R141 and R142 for the source's register write: `fc` takes the byte's low three bits, or the byte above them; the
other half and the three filter states stay; with the examples (addresses: decision D16; `bus_value`: D27; that DATA_OUT
stays as it was: log entry 3). -/
def Obligations.CutoffRegisters : Prop :=
  (∀ (d : Byte) (s : State),
    let lo := writeReg 0x15#5 d s
    let hi := writeReg 0x16#5 d s
    lo.filter.fc.toNat = s.filter.fc.toNat / 8 * 8 + d.toNat % 8
      ∧ lo = { s with busValue := lo.busValue, filter := { s.filter with fc := lo.filter.fc } }
      ∧ hi.filter.fc.toNat = d.toNat * 8 + s.filter.fc.toNat % 8
      ∧ hi = { s with busValue := hi.busValue, filter := { s.filter with fc := hi.filter.fc } })
  ∧ ∀ s : State,
    (s.filter.fc = 0x400#11 → (writeReg 0x15#5 0xFF#8 s).filter.fc = 0x407#11)
    ∧ (s.filter.fc = 0 → (writeReg 0x16#5 0x80#8 s).filter.fc = 0x400#11)

/-- The four filter operations complete: the TICK, then the fields of the byte, `bus_value` the byte, and nothing else;
in particular no filter state is cleared (R141 to R144 within a cycle, R225; decisions D4, D16, D27; that DATA_OUT is then
not valid: log entry 3). -/
def Obligations.FilterRegisterWrites : Prop :=
  ∀ (d : Byte) (s : State),
    let u := tick Config.tables s
    let after (f : Filter) : State := { u with filter := f, busValue := d, dataOut := none }
    (∃ f, exec (.wrFcLo d) s = .next (after f)
        ∧ f.fc.toNat = u.filter.fc.toNat / 8 * 8 + d.toNat % 8 ∧ f = { u.filter with fc := f.fc })
      ∧ (∃ f, exec (.wrFcHi d) s = .next (after f)
        ∧ f.fc.toNat = d.toNat * 8 + u.filter.fc.toNat % 8 ∧ f = { u.filter with fc := f.fc })
      ∧ (∃ f, exec (.wrResFilt d) s = .next (after f)
        ∧ f.res.toNat = d.toNat / 16 ∧ f.filt.toNat = d.toNat % 16
        ∧ f = { u.filter with res := f.res, filt := f.filt })
      ∧ ∃ f, exec (.wrModeVol d) s = .next (after f)
        ∧ f.vol.toNat = d.toNat % 16
        ∧ f = { u.filter with
              voice3off := d.getLsbD 7, hp := d.getLsbD 6, bp := d.getLsbD 5, lp := d.getLsbD 4, vol := f.vol }

/-- The two FREQ writes of a voice compose little-endian in either order, and between them the field is a mixture of new
and old bytes, which the TICK of the second cycle uses: shown for the low byte first, where that TICK advances the
accumulator by the mixture if TEST is clear and the voice is not synced (R43, R44, R218; decision D4). -/
def Obligations.FrequencyPairTears : Prop :=
  ∀ (k : VoiceId) (lo hi : Byte) (s : State),
    (∃ t r, exec (k.wrFreqLo lo) s = .next t ∧ exec (k.wrFreqHi hi) t = .next r
      ∧ (t.voice k).osc.freq.toNat = (s.voice k).osc.freq.toNat / 256 * 256 + lo.toNat
      ∧ (r.voice k).osc.freq.toNat = hi.toNat * 256 + lo.toNat
      ∧ ((s.voice k).osc.test = false → (s.voice k).osc.sync = false →
          (r.voice k).osc.acc.toNat = ((t.voice k).osc.acc.toNat + (t.voice k).osc.freq.toNat) % 2 ^ 24))
    ∧ ∃ t r, exec (k.wrFreqHi hi) s = .next t ∧ exec (k.wrFreqLo lo) t = .next r
      ∧ (t.voice k).osc.freq.toNat = hi.toNat * 256 + (s.voice k).osc.freq.toNat % 256
      ∧ (r.voice k).osc.freq.toNat = hi.toNat * 256 + lo.toNat

/-- The same for the PW pair of each voice and for the FC pair: in either order the two writes leave both parts, and
between them the field is a mixture, which the filter's step in the second cycle uses as its cutoff if FILTER_EN = 1:
shown for FC_LO first (R43, R44, R218; decisions D4, D19). -/
def Obligations.PulseWidthAndCutoffPairsTear : Prop :=
  ∀ (lo hi : Byte) (s : State),
    (∀ k : VoiceId,
      (∃ t r, exec (k.wrPwLo lo) s = .next t ∧ exec (k.wrPwHi hi) t = .next r
        ∧ (t.voice k).osc.pw.toNat = (s.voice k).osc.pw.toNat / 256 * 256 + lo.toNat
        ∧ (r.voice k).osc.pw.toNat = hi.toNat % 16 * 256 + lo.toNat)
      ∧ ∃ t r, exec (k.wrPwHi hi) s = .next t ∧ exec (k.wrPwLo lo) t = .next r
        ∧ (t.voice k).osc.pw.toNat = hi.toNat % 16 * 256 + (s.voice k).osc.pw.toNat % 256
        ∧ (r.voice k).osc.pw.toNat = hi.toNat % 16 * 256 + lo.toNat)
    ∧ (∃ t r, exec (.wrFcLo lo) s = .next t ∧ exec (.wrFcHi hi) t = .next r
      ∧ t.filter.fc.toNat = s.filter.fc.toNat / 8 * 8 + lo.toNat % 8
      ∧ r.filter.fc.toNat = hi.toNat * 8 + lo.toNat % 8
      ∧ (s.straps.filterEn = true →
          r.filter.vbp =
            t.filter.vbp
              - ((Config.cutoffDac s.straps.chipModel t.filter.fc).val : Int) * r.filter.vhp / 2 ^ 20))
    ∧ ∃ t r, exec (.wrFcHi hi) s = .next t ∧ exec (.wrFcLo lo) t = .next r
      ∧ t.filter.fc.toNat = hi.toNat * 8 + s.filter.fc.toNat % 8
      ∧ r.filter.fc.toNat = hi.toNat * 8 + lo.toNat % 8

/-- A write to an address 25 to 31 completes with the TICK and `bus_value`, nothing else (R178; decisions D4, D27; that
DATA_OUT is then not valid: log entry 3). -/
def Obligations.IgnoredWrites : Prop :=
  ∀ (d : Byte) (s : State),
    ∀ i ∈ [Instr.wrPotx d, .wrPoty d, .wrOsc3 d, .wrEnv3 d, .wrUnused1D d, .wrUnused1E d, .wrUnused1F d],
      exec i s = .next { tick Config.tables s with busValue := d, dataOut := none }

/-- The four read registers complete: the TICK and nothing else of the state, then DATA_OUT: the POT inputs, bits 11 to
4 of voice 3's waveform, voice 3's envelope counter (R103, R126, R176; decisions D4, D28, log entry 3). -/
def Obligations.ReadRegisterReads : Prop :=
  ∀ s : State,
    let u := tick Config.tables s
    exec .rdPotx s = .next { u with dataOut := some s.inputs.potX }
      ∧ exec .rdPoty s = .next { u with dataOut := some s.inputs.potY }
      ∧ exec .rdEnv3 s = .next { u with dataOut := some u.voice3.env.envelopeCounter }
      ∧ ∃ b : Byte, b.toNat = (waveOut Config.tables u .v3).toNat / 16
          ∧ exec .rdOsc3 s = .next { u with dataOut := some b }

/-- A read of any other address completes: the TICK and nothing else of the state, then DATA_OUT is the byte most
recently written before the cycle (R177; decisions D4, D27). -/
def Obligations.OtherReadsReturnBusValue : Prop :=
  ∀ s : State,
    ∀ i ∈ [Instr.rdV1FreqLo, .rdV1FreqHi, .rdV1PwLo, .rdV1PwHi, .rdV1Control, .rdV1AttackDecay, .rdV1SustainRelease]
        ++ [Instr.rdV2FreqLo, .rdV2FreqHi, .rdV2PwLo, .rdV2PwHi, .rdV2Control, .rdV2AttackDecay, .rdV2SustainRelease]
        ++ [Instr.rdV3FreqLo, .rdV3FreqHi, .rdV3PwLo, .rdV3PwHi, .rdV3Control, .rdV3AttackDecay, .rdV3SustainRelease]
        ++ [Instr.rdFcLo, .rdFcHi, .rdResFilt, .rdModeVol, .rdUnused1D, .rdUnused1E, .rdUnused1F],
      exec i s = .next { tick Config.tables s with dataOut := some s.busValue }

/-- Over all operations, `bus_value` is the data byte of the word if the word is a write, 0 after RESET, and unchanged
otherwise (R27; decision D27). -/
def Obligations.BusValueIsTheLastByteWritten : Prop :=
  ∀ (i : Instr) (s t : State), exec i s = .next t →
    t.busValue =
      if (encode i).getLsbD 15 then 0
      else if (encode i).getLsbD 14 = true ∧ (encode i).getLsbD 13 = false then (encode i).setWidth 8
      else s.busValue

/-- A WR word does the TICK and then the source's `write` at its address, for every address and byte: the 32 operations
and the address arithmetic of R62 agree (R46, R58, R61, R62, R175; decisions D3, D4, D16, D27; that DATA_OUT is then not
valid: log entry 3). -/
def Obligations.WriteWordIsTickThenWrite : Prop :=
  ∀ (a : Addr) (d : Byte) (s : State),
    exec (decode (0b010#3 ++ a ++ d)) s = .next { writeReg a d (tick Config.tables s) with dataOut := none }

/-- A RD word, whatever its don't-care byte, does the TICK and then presents the source's `read` at its address, changing
nothing else (R47, R58, R175; decisions D3, D4). -/
def Obligations.ReadWordIsTickThenRead : Prop :=
  ∀ (a : Addr) (d : Byte) (s : State),
    exec (decode (0b011#3 ++ a ++ d)) s =
      .next { tick Config.tables s with dataOut := some (readReg Config.tables a (tick Config.tables s)) }

/-! ## Filter and output -/

/-- The routing: FILTER_EN = 1 splits the four sources by the bits of `filt`, 3OFF takes an unfiltered voice 3 out of
both sums, and FILTER_EN = 0 sends every source, 3OFF aside, the unfiltered way (R146, R147, R153; decisions D17, D21). -/
def Obligations.FilterRouting : Prop :=
  ∀ (T : Tables) (s : State),
    let x1 := voiceSample T s .v1
    let x2 := voiceSample T s .v2
    let x3 := voiceSample T s .v3
    let xe := s.inputs.extIn.toInt
    let f (i : Nat) : Bool := s.straps.filterEn && s.filter.filt.getLsbD i
    filterIn T s = (f 0).toInt * x1 + (f 1).toInt * x2 + (f 2).toInt * x3 + (f 3).toInt * xe
      ∧ filterIn T s + filterBypass T s =
          x1 + x2 + (if s.filter.voice3off = true ∧ f 2 = false then 0 else x3) + xe
      ∧ (s.straps.filterEn = false → filterIn T s = 0)

/-- The filter states after a TICK with FILTER_EN = 1: the three assignments in sequence, from the voice samples after
the oscillator and envelope steps of the same TICK, with the coefficients looked up at `fc` and `res` in the strapped
chip's tables (R138, R148 to R150; scaling and order are decision D19, the tables D20 and log entries 5 and 6). -/
def Obligations.FilterTick : Prop :=
  ∀ (T : Tables) (s : State), s.straps.filterEn = true →
    let f := s.filter
    let g := (tick T s).filter
    let w0 : Int := (T.cutoffDac s.straps.chipModel f.fc).val
    let invQ : Int := (T.resonanceLessOne s.straps.chipModel f.res).val + 1
    g.vhp = f.vbp * invQ / 2 ^ 10 - f.vlp - filterIn T (tick T s)
      ∧ g.vbp = f.vbp - w0 * g.vhp / 2 ^ 20
      ∧ g.vlp = f.vlp - w0 * g.vbp / 2 ^ 20

/-- The external-filter states after a TICK with EXTFILT_EN = 1, from the `vi` of the state after the filter step (R164;
coefficients and order are decision D24). -/
def Obligations.ExternalFilterTick : Prop :=
  ∀ (T : Tables) (s : State), s.straps.extfiltEn = true →
    let x := s.ext
    let y := (tick T s).ext
    y.vhpExt = x.vhpExt + 1678 * (x.vlpExt - x.vhpExt) / 2 ^ 24
      ∧ y.vlpExt = x.vlpExt + 6237 * (scaledOut T (tick T s) * 2 ^ 11 - x.vlpExt) / 2 ^ 16

/-- With FILTER_EN = 0 a TICK leaves the filter states as they are, with EXTFILT_EN = 0 the external filter's, and the
output is then the clamped scaled sample (R153, R166, R167; decisions D21, D25). -/
def Obligations.BypassFreezesTheFilters : Prop :=
  ∀ (T : Tables) (s : State),
    (s.straps.filterEn = false → (tick T s).filter = s.filter)
    ∧ (s.straps.extfiltEn = false →
        (tick T s).ext = s.ext ∧ audioOut T s = max (-32768) (min 32767 (scaledOut T s)))

/-- R152 and R165. "Final internal output = `(Vf + Vnf) × vol`", an exact product, and it is a function of the voices and
filter registers and states as they now are, the straps and EXT_IN, not of any copy. The external filter's "Output =
`(Vlp − Vhp) >> 11`, clamped to signed 16 bits". With the examples. -/
def Obligations.InternalAndExternalOutputs : Prop :=
  (∀ (T : Tables) (s : State),
    internalOut T s = (filterTaps s + filterBypass T s) * (s.filter.vol.toNat : Int)
    ∧ (filterTaps s = 14784 → filterBypass T s = 0 → s.filter.vol = 15#4 → internalOut T s = 221760)
    ∧ (∀ t : State, (∀ k, t.voice k = s.voice k) → t.filter = s.filter → t.straps = s.straps →
        t.inputs.extIn = s.inputs.extIn → internalOut T t = internalOut T s)
    ∧ (s.straps.extfiltEn = true → audioOut T s = max (-32768) (min 32767 (extOut s.ext))))
  ∧ ∀ x : ExtFilter, extOut x = (x.vlpExt - x.vhpExt) / 2 ^ 11
    ∧ (x.vlpExt = 3193344 → x.vhpExt = 0 → extOut x = 1559)

/-- The mode mixer adds exactly the selected taps, in every one of the eight combinations, when the filter is on, and its
sum is 0 when it is bypassed (R151; the bypass is decision D21). -/
def Obligations.ModeMixer : Prop :=
  ∀ s : State,
    (s.straps.filterEn = true →
      filterTaps s = s.filter.lp.toInt * s.filter.vlp + s.filter.bp.toInt * s.filter.vbp
        + s.filter.hp.toInt * s.filter.vhp)
    ∧ (s.straps.filterEn = false → filterTaps s = 0)

/-- The inverter and scaler, the clamp and the two configurations of AUDIO_OUT: its value is always a signed 16-bit
integer (R161, R162, R167; decision D23, D25). -/
def Obligations.AudioOutIsSixteenBits : Prop :=
  ∀ (T : Tables) (s : State),
    scaledOut T s = (-internalOut T s) / 2 ^ 10
    ∧ -32768 ≤ audioOut T s ∧ audioOut T s ≤ 32767
    ∧ (audioPort T s).toInt = audioOut T s
    ∧ (s.straps.extfiltEn = true → -32768 ≤ extOut s.ext → extOut s.ext ≤ 32767 → audioOut T s = extOut s.ext)
    ∧ (s.straps.extfiltEn = false → -32768 ≤ scaledOut T s → scaledOut T s ≤ 32767 → audioOut T s = scaledOut T s)

/-- `output(bits)` is a signed value of `bits` bits for bits in 1 to 16, `output(16)` is `output()`, and no other width
has a value (R168; decision D26; no value outside 1 to 16: log entry 9). -/
def Obligations.OutputBitsFitsItsWidth : Prop :=
  ∀ (T : Tables) (s : State) (bits : Nat),
    (1 ≤ bits → bits ≤ 16 → ∃ v, audioOutBits T s bits = some v
      ∧ v = audioOut T s / 2 ^ (16 - bits) ∧ -(2 ^ (bits - 1)) ≤ v ∧ v ≤ 2 ^ (bits - 1) - 1)
    ∧ audioOutBits T s 16 = some (audioOut T s)
    ∧ (¬(1 ≤ bits ∧ bits ≤ 16) → audioOutBits T s bits = none)

/-- The voice sample: 0 when muted, otherwise the exact product of the waveform less 0x800 and the envelope, each looked up
in the strapped chip's DAC table: the identity on the MOS8580, the parameter on the MOS6581; always within −522240 to
521985, whatever the tables (R133 to R137; decisions D18, D29; the MOS6581 tables: log entry 5). -/
def Obligations.VoiceSampleRange : Prop :=
  ∀ (T : Tables) (s : State) (k : VoiceId),
    (s.straps.mute k = true → voiceSample T s k = 0)
    ∧ (s.straps.mute k = false → s.straps.chipModel = .mos8580 →
        voiceSample T s k = ((waveOut T s k).toNat - 0x800) * (s.voice k).env.envelopeCounter.toNat)
    ∧ (s.straps.mute k = false → s.straps.chipModel = .mos6581 →
        voiceSample T s k =
          ((T.waveDac6581 (waveOut T s k)).toNat - 0x800) * (T.envDac6581 (s.voice k).env.envelopeCounter).toNat)
    ∧ -522240 ≤ voiceSample T s k ∧ voiceSample T s k ≤ 521985

/-! ## Whole-machine rules -/

/-- No operation changes a strap, an input or what the host has yet to present (R9, R213). -/
def Obligations.NoOperationChangesAStrap : Prop :=
  ∀ (i : Instr) (s t : State), exec i s = .next t →
    t.straps = s.straps ∧ t.inputs = s.inputs ∧ t.pending = s.pending

/-- The straps and the inputs never reach the oscillators, the envelopes, the register fields or `bus_value`: two states
that differ only in straps, inputs, filter states and external-filter states give, under any operation, states whose
voices, filter registers and `bus_value` are equal (R185, R186, 95_test_vectors.md P5). -/
def Obligations.StrapsAndInputsDoNotReachTheVoices : Prop :=
  ∀ (i : Instr) (s : State) (p : Straps) (x : Inputs) (vhp vbp vlp : Int) (e : ExtFilter), ∃ t t',
    exec i s = .next t
    ∧ exec i { s with
        straps := p, inputs := x, filter := { s.filter with vhp := vhp, vbp := vbp, vlp := vlp }, ext := e }
        = .next t'
    ∧ (∀ k, t'.voice k = t.voice k) ∧ t'.busValue = t.busValue
    ∧ t'.filter = { t.filter with vhp := t'.filter.vhp, vbp := t'.filter.vbp, vlp := t'.filter.vlp }

/-- The invariants of R32 and R33 hold at reset (rests on decisions D6 and D7). -/
def Obligations.InvariantAtReset : Prop := State.reset.Inv

/-- Every step from a state that meets the invariants of R32 and R33 gives a state that meets them. -/
def Obligations.EveryStepKeepsTheInvariant : Prop :=
  ∀ s t : State, s.Inv → step s = .next t → t.Inv
end

