-- ==== Sys2Proof/Laws/Decode.lean ====
section
/-! SUPPORT. The register map is one to one, and the words of the operations are those of their registers. -/

namespace Sys2Proof

@[simp] theorem Reg.addr_ofAddr (a : Addr) : (Reg.ofAddr a).addr = a := by
  revert a
  decide

@[simp] theorem Reg.ofAddr_addr (r : Reg) : Reg.ofAddr r.addr = r := by cases r <;> rfl

theorem encode_decodeWr (r : Reg) (d : Byte) : encode (decodeWr r d) = wrWord r.addr d := by cases r <;> rfl

theorem encode_decodeRd (r : Reg) : encode (decodeRd r) = rdWord r.addr := by cases r <;> rfl

/-- Masking a WR word to its upper byte clears the data byte and nothing else. -/
theorem wrWord_mask (a : Addr) (d : Byte) : wrWord a d &&& 0xff00#16 = 0b010#3 ++ a ++ 0#8 := by
  have h : (0xff00#16 : CycleWord) = 0xff#8 ++ 0#8 := by decide
  rw [wrWord, h, BitVec.and_append]
  congr 1
  · exact BitVec.and_allOnes
  · exact BitVec.and_zero

end Sys2Proof
end

