-- ==== Sys2Proof/Laws/State.lean ====
section
/-! SUPPORT. The accessors of State: one lemma per field per update. -/

namespace Sys2Proof.Machine

variable (s : State) (k : VoiceId) (v : Voice)

/-! ## `voice` -/

@[simp] theorem State.voice_v1 : s.voice .v1 = s.voice1 := rfl
@[simp] theorem State.voice_v2 : s.voice .v2 = s.voice2 := rfl
@[simp] theorem State.voice_v3 : s.voice .v3 = s.voice3 := rfl

/-- An update of the fields beside the voices leaves every voice. -/
@[simp] theorem State.voice_update (f : Filter) (e : ExtFilter) (b : Byte) (p : Straps) (x : Inputs)
    (l : List CyclePins) (d : Option Byte) :
    State.voice
      { voice1 := s.voice1, voice2 := s.voice2, voice3 := s.voice3, filter := f, ext := e, busValue := b, straps := p,
        inputs := x, pending := l, dataOut := d } k = s.voice k := by
  cases k <;> rfl

/-- A property of the three voices, one by one. -/
theorem VoiceId.forall_iff {P : VoiceId → Prop} : (∀ k, P k) ↔ P .v1 ∧ P .v2 ∧ P .v3 :=
  ⟨fun h => ⟨h _, h _, h _⟩, fun ⟨h1, h2, h3⟩ k => by cases k <;> assumption⟩

@[simp] theorem VoiceId.src_v1 : VoiceId.src .v1 = .v3 := rfl
@[simp] theorem VoiceId.src_v2 : VoiceId.src .v2 = .v1 := rfl
@[simp] theorem VoiceId.src_v3 : VoiceId.src .v3 = .v2 := rfl
@[simp] theorem VoiceId.dst_src : k.src.dst = k := by cases k <;> rfl
@[simp] theorem VoiceId.src_dst : k.dst.src = k := by cases k <;> rfl

/-! ## `setVoice` -/

@[simp] theorem State.voice_setVoice_self : (s.setVoice k v).voice k = v := by cases k <;> rfl

@[simp] theorem State.voice_setVoice_of_ne {j : VoiceId} (h : j ≠ k) : (s.setVoice k v).voice j = s.voice j := by
  cases k <;> cases j <;> first | rfl | exact absurd rfl h

@[simp] theorem State.setVoice_filter : (s.setVoice k v).filter = s.filter := by cases k <;> rfl
@[simp] theorem State.setVoice_ext : (s.setVoice k v).ext = s.ext := by cases k <;> rfl
@[simp] theorem State.setVoice_busValue : (s.setVoice k v).busValue = s.busValue := by cases k <;> rfl
@[simp] theorem State.setVoice_straps : (s.setVoice k v).straps = s.straps := by cases k <;> rfl
@[simp] theorem State.setVoice_inputs : (s.setVoice k v).inputs = s.inputs := by cases k <;> rfl
@[simp] theorem State.setVoice_pending : (s.setVoice k v).pending = s.pending := by cases k <;> rfl
@[simp] theorem State.setVoice_dataOut : (s.setVoice k v).dataOut = s.dataOut := by cases k <;> rfl

/-! ## `updOsc` and `updEnv` -/

variable (f : Osc → Osc) (g : Env → Env)

@[simp] theorem State.updOsc_voice_self : (s.updOsc k f).voice k = { s.voice k with osc := f (s.voice k).osc } := by
  simp [State.updOsc]
@[simp] theorem State.updOsc_voice_of_ne {j : VoiceId} (h : j ≠ k) : (s.updOsc k f).voice j = s.voice j := by
  simp [State.updOsc, h]
@[simp] theorem State.updOsc_filter : (s.updOsc k f).filter = s.filter := by simp [State.updOsc]
@[simp] theorem State.updOsc_ext : (s.updOsc k f).ext = s.ext := by simp [State.updOsc]
@[simp] theorem State.updOsc_busValue : (s.updOsc k f).busValue = s.busValue := by simp [State.updOsc]
@[simp] theorem State.updOsc_straps : (s.updOsc k f).straps = s.straps := by simp [State.updOsc]
@[simp] theorem State.updOsc_inputs : (s.updOsc k f).inputs = s.inputs := by simp [State.updOsc]
@[simp] theorem State.updOsc_pending : (s.updOsc k f).pending = s.pending := by simp [State.updOsc]
@[simp] theorem State.updOsc_dataOut : (s.updOsc k f).dataOut = s.dataOut := by simp [State.updOsc]

@[simp] theorem State.updEnv_voice_self : (s.updEnv k g).voice k = { s.voice k with env := g (s.voice k).env } := by
  simp [State.updEnv]
@[simp] theorem State.updEnv_voice_of_ne {j : VoiceId} (h : j ≠ k) : (s.updEnv k g).voice j = s.voice j := by
  simp [State.updEnv, h]
@[simp] theorem State.updEnv_filter : (s.updEnv k g).filter = s.filter := by simp [State.updEnv]
@[simp] theorem State.updEnv_ext : (s.updEnv k g).ext = s.ext := by simp [State.updEnv]
@[simp] theorem State.updEnv_busValue : (s.updEnv k g).busValue = s.busValue := by simp [State.updEnv]
@[simp] theorem State.updEnv_straps : (s.updEnv k g).straps = s.straps := by simp [State.updEnv]
@[simp] theorem State.updEnv_inputs : (s.updEnv k g).inputs = s.inputs := by simp [State.updEnv]
@[simp] theorem State.updEnv_pending : (s.updEnv k g).pending = s.pending := by simp [State.updEnv]
@[simp] theorem State.updEnv_dataOut : (s.updEnv k g).dataOut = s.dataOut := by simp [State.updEnv]

end Sys2Proof.Machine
end

