-- ==== Sys2Proof/Laws/Units.lean ====
section
/-! SUPPORT. What each unit can do, said once: the arithmetic of R11, the fields a write assembles, the waveform
generator's two phases, the envelope generator's step and the filters. Later proofs cite these and do not unfold. -/

namespace Sys2Proof.Machine

/-! ## Arithmetic -/

/-- `floorShift` is the floored quotient R11 states. -/
theorem floorShift_eq_div (x : Int) (n : Nat) : floorShift x n = x / ((2 ^ n : Nat) : Int) :=
  Int.shiftRight_eq_div_pow x n

@[simp] theorem floorShift_zero (n : Nat) : floorShift 0 n = 0 := by simp [floorShift]

theorem clamp16_bounds (x : Int) : -32768 ≤ clamp16 x ∧ clamp16 x ≤ 32767 := by
  unfold clamp16
  omega

theorem clamp16_eq_self {x : Int} (h : -32768 ≤ x) (h' : x ≤ 32767) : clamp16 x = x := by
  unfold clamp16
  omega

/-! ## Two-register fields -/

theorem withFreqLo_toNat (f : BitVec 16) (d : Byte) : (withFreqLo f d).toNat = f.toNat / 256 * 256 + d.toNat := by
  have := f.isLt
  have := d.isLt
  simp only [withFreqLo, BitVec.toNat_append, BitVec.extractLsb'_toNat, Nat.shiftRight_eq_div_pow, Nat.shiftLeft_eq]
  rw [← Nat.shiftLeft_eq, ← Nat.shiftLeft_add_eq_or_of_lt d.isLt, Nat.shiftLeft_eq]
  omega

theorem withFreqHi_toNat (f : BitVec 16) (d : Byte) : (withFreqHi f d).toNat = d.toNat * 256 + f.toNat % 256 := by
  have h : (f.extractLsb' 0 8).toNat < 2 ^ 8 := (f.extractLsb' 0 8).isLt
  simp only [withFreqHi, BitVec.toNat_append]
  rw [← Nat.shiftLeft_add_eq_or_of_lt h, Nat.shiftLeft_eq]
  simp

theorem withPwLo_toNat (p : BitVec 12) (d : Byte) : (withPwLo p d).toNat = p.toNat / 256 * 256 + d.toNat := by
  have := p.isLt
  simp only [withPwLo, BitVec.toNat_append, BitVec.extractLsb'_toNat, Nat.shiftRight_eq_div_pow]
  rw [← Nat.shiftLeft_add_eq_or_of_lt d.isLt, Nat.shiftLeft_eq]
  omega

theorem withPwHi_toNat (p : BitVec 12) (d : Byte) :
    (withPwHi p d).toNat = d.toNat % 16 * 256 + p.toNat % 256 := by
  have h : (p.extractLsb' 0 8).toNat < 2 ^ 8 := (p.extractLsb' 0 8).isLt
  simp only [withPwHi, loNibble, BitVec.toNat_append]
  rw [← Nat.shiftLeft_add_eq_or_of_lt h, Nat.shiftLeft_eq]
  simp

theorem withFcLo_toNat (f : BitVec 11) (d : Byte) : (withFcLo f d).toNat = f.toNat / 8 * 8 + d.toNat % 8 := by
  have := f.isLt
  have h : (d.extractLsb' 0 3).toNat < 2 ^ 3 := (d.extractLsb' 0 3).isLt
  simp only [withFcLo, BitVec.toNat_append]
  rw [← Nat.shiftLeft_add_eq_or_of_lt h, Nat.shiftLeft_eq]
  simp only [BitVec.extractLsb'_toNat, Nat.shiftRight_eq_div_pow]
  omega

theorem withFcHi_toNat (f : BitVec 11) (d : Byte) : (withFcHi f d).toNat = d.toNat * 8 + f.toNat % 8 := by
  have h : (f.extractLsb' 0 3).toNat < 2 ^ 3 := (f.extractLsb' 0 3).isLt
  simp only [withFcHi, BitVec.toNat_append]
  rw [← Nat.shiftLeft_add_eq_or_of_lt h, Nat.shiftLeft_eq]
  simp

theorem hiNibble_toNat (d : Byte) : (hiNibble d).toNat = d.toNat / 16 := by
  have := d.isLt
  simp only [hiNibble, BitVec.extractLsb'_toNat, Nat.shiftRight_eq_div_pow]
  omega

theorem loNibble_toNat (d : Byte) : (loNibble d).toNat = d.toNat % 16 := by
  simp [loNibble, BitVec.extractLsb'_toNat]

/-! ## Waveform generator -/

/-- A bit rises between two accumulator values, in numbers. -/
theorem bitRises_iff (i : Nat) (a b : BitVec 24) :
    bitRises i a b = true ↔ a.toNat / 2 ^ i % 2 = 0 ∧ b.toNat / 2 ^ i % 2 = 1 := by
  have ha := Nat.mod_two_eq_zero_or_one (a.toNat / 2 ^ i)
  simp only [bitRises, BitVec.getLsbD, Nat.testBit_eq_decide_div_mod_eq, Bool.and_eq_true, Bool.not_eq_true',
    decide_eq_false_iff_not, decide_eq_true_eq]
  omega

theorem msbRises_iff (a b : BitVec 24) : msbRises a b = true ↔ a.toNat < 2 ^ 23 ∧ 2 ^ 23 ≤ b.toNat := by
  have := a.isLt
  have := b.isLt
  rw [msbRises, bitRises_iff]
  omega

theorem phaseA_of_test {o : Osc} (h : o.test = true) : phaseA o = { o with msbRising := false } := by
  simp [phaseA, h]

theorem phaseA_of_not_test {o : Osc} (h : o.test = false) :
    phaseA o =
      { o with
        acc := o.acc + o.freq.setWidth 24
        lfsr := if noiseClocks o.acc (o.acc + o.freq.setWidth 24) then lfsrStep o.lfsr else o.lfsr
        msbRising := msbRises o.acc (o.acc + o.freq.setWidth 24) } := by
  simp [phaseA, h]

/-- The sum of an accumulator and a frequency, in numbers. -/
theorem accSum_toNat (a : BitVec 24) (f : BitVec 16) :
    (a + f.setWidth 24).toNat = (a.toNat + f.toNat) % 2 ^ 24 := by
  have := f.isLt
  simp only [BitVec.toNat_add, BitVec.toNat_setWidth]
  omega

/-- Neither phase touches a register field. -/
@[simp] theorem phaseA_freq (o : Osc) : (phaseA o).freq = o.freq := by unfold phaseA; split <;> rfl
@[simp] theorem phaseA_pw (o : Osc) : (phaseA o).pw = o.pw := by unfold phaseA; split <;> rfl
@[simp] theorem phaseA_waveform (o : Osc) : (phaseA o).waveform = o.waveform := by unfold phaseA; split <;> rfl
@[simp] theorem phaseA_test (o : Osc) : (phaseA o).test = o.test := by unfold phaseA; split <;> rfl
@[simp] theorem phaseA_ringMod (o : Osc) : (phaseA o).ringMod = o.ringMod := by unfold phaseA; split <;> rfl
@[simp] theorem phaseA_sync (o : Osc) : (phaseA o).sync = o.sync := by unfold phaseA; split <;> rfl

variable (b : Bool)

@[simp] theorem phaseB_freq (o : Osc) : (phaseB b o).freq = o.freq := by unfold phaseB; split <;> rfl
@[simp] theorem phaseB_pw (o : Osc) : (phaseB b o).pw = o.pw := by unfold phaseB; split <;> rfl
@[simp] theorem phaseB_waveform (o : Osc) : (phaseB b o).waveform = o.waveform := by unfold phaseB; split <;> rfl
@[simp] theorem phaseB_test (o : Osc) : (phaseB b o).test = o.test := by unfold phaseB; split <;> rfl
@[simp] theorem phaseB_ringMod (o : Osc) : (phaseB b o).ringMod = o.ringMod := by unfold phaseB; split <;> rfl
@[simp] theorem phaseB_sync (o : Osc) : (phaseB b o).sync = o.sync := by unfold phaseB; split <;> rfl
@[simp] theorem phaseB_lfsr (o : Osc) : (phaseB b o).lfsr = o.lfsr := by unfold phaseB; split <;> rfl
@[simp] theorem phaseB_msbRising (o : Osc) : (phaseB b o).msbRising = o.msbRising := by unfold phaseB; split <;> rfl

/-! ## Envelope generator -/

/-- What a TICK can do to an envelope generator: nothing but `rate_counter`, or a restart of it with a step of the
sub-counter, or with a restart of both and a step of the envelope. -/
theorem rateStep_cases (e : Env) :
    (rateMatches e = false ∧ rateStep e = { e with rateCounter := e.rateCounter + 1 })
    ∨ (rateMatches e = true ∧ (e.expCounter + 1).toNat ≠ expPeriod (expIndex e)
        ∧ rateStep e = { e with rateCounter := 0, expCounter := e.expCounter + 1 })
    ∨ (rateMatches e = true ∧ (e.expCounter + 1).toNat = expPeriod (expIndex e)
        ∧ rateStep e = envelopeStep { e with rateCounter := 0, expCounter := 0 }) := by
  cases h : rateMatches e
  · exact .inl ⟨rfl, by simp [rateStep, h]⟩
  · by_cases h' : (e.expCounter + 1).toNat = expPeriod (expIndex e)
    · exact .inr (.inr ⟨rfl, h', (if_pos h).trans (if_pos h')⟩)
    · exact .inr (.inl ⟨rfl, h', (if_pos h).trans (if_neg h')⟩)

/-- Above 0 the floor of an envelope value's own segment lies below the value (R123: "`c > exp_level[seg]` holds for
every `c > 0`"), and at 0 it is 0. -/
theorem expLevel_lt_iff (c : Byte) : expLevel (expSegment c) < c.toNat ↔ 0 < c.toNat := by
  unfold expSegment
  repeat' split
  all_goals simp [expLevel] <;> omega

/-- The envelope step in numbers, for each state (R123). -/
theorem envelopeStep_toNat (e : Env) :
    (envelopeStep e).envelopeCounter.toNat =
      match e.envState with
      | .attack => min 255 (e.envelopeCounter.toNat + 1)
      | .decaySustain =>
        if e.sustain.toNat * 0x11 < e.envelopeCounter.toNat then e.envelopeCounter.toNat - 1
        else e.envelopeCounter.toNat
      | .release => e.envelopeCounter.toNat - 1 := by
  have hlt := e.envelopeCounter.isLt
  have hl := expLevel_lt_iff e.envelopeCounter
  have hadd := BitVec.toNat_add e.envelopeCounter 1#8
  have hsub := BitVec.toNat_sub e.envelopeCounter 1#8
  simp only [BitVec.toNat_ofNat] at hadd hsub
  cases h : e.envState <;> simp only [envelopeStep, minLevel, sustainLevel, h]
  all_goals split
  all_goals (try split) <;> simp_all <;> omega

/-- An envelope step changes the envelope counter only. -/
theorem envelopeStep_eq (e : Env) : envelopeStep e = { e with envelopeCounter := (envelopeStep e).envelopeCounter } := by
  unfold envelopeStep
  split <;> split <;> rfl

/-- The state check changes the state only. -/
theorem stateCheck_eq (e : Env) :
    stateCheck e =
      { e with
        envState := if e.envState = .attack ∧ e.envelopeCounter = 0xFF#8 then .decaySustain else e.envState } := by
  cases e with
  | mk a d s r g c rc x st =>
    cases st <;> simp [stateCheck]
    split <;> rfl

/-- A TICK of an envelope generator writes its three counters and its state only. -/
theorem envTick_eq (e : Env) :
    envTick e =
      { e with
        envelopeCounter := (rateStep e).envelopeCounter
        rateCounter := (rateStep e).rateCounter
        expCounter := (rateStep e).expCounter
        envState :=
          if e.envState = .attack ∧ (rateStep e).envelopeCounter = 0xFF#8 then .decaySustain else e.envState } := by
  rw [envTick, stateCheck_eq]
  rcases rateStep_cases e with ⟨-, h⟩ | ⟨-, -, h⟩ | ⟨-, -, h⟩ <;> rw [h]
  rw [envelopeStep_eq]

@[simp] theorem envTick_attack (e : Env) : (envTick e).attack = e.attack := by rw [envTick_eq]
@[simp] theorem envTick_decay (e : Env) : (envTick e).decay = e.decay := by rw [envTick_eq]
@[simp] theorem envTick_sustain (e : Env) : (envTick e).sustain = e.sustain := by rw [envTick_eq]
@[simp] theorem envTick_release (e : Env) : (envTick e).release = e.release := by rw [envTick_eq]
@[simp] theorem envTick_gate (e : Env) : (envTick e).gate = e.gate := by rw [envTick_eq]
@[simp] theorem envTick_envelopeCounter (e : Env) :
    (envTick e).envelopeCounter = (rateStep e).envelopeCounter := by rw [envTick_eq]
@[simp] theorem envTick_rateCounter (e : Env) : (envTick e).rateCounter = (rateStep e).rateCounter := by
  rw [envTick_eq]
@[simp] theorem envTick_expCounter (e : Env) : (envTick e).expCounter = (rateStep e).expCounter := by
  rw [envTick_eq]
theorem envTick_envState (e : Env) :
    (envTick e).envState =
      if e.envState = .attack ∧ (envTick e).envelopeCounter = 0xFF#8 then .decaySustain else e.envState := by
  rw [envTick_eq]

theorem ratePeriod_pos (i : BitVec 4) : 9 ≤ ratePeriod i ∧ ratePeriod i ≤ 31252 := by
  revert i
  decide

/-! ## Filters -/

/-- A filter step writes the three integrator states only. -/
theorem filterStep_eq (w0 invQ vi : Int) (f : Filter) :
    filterStep w0 invQ vi f =
      { f with
        vhp := (filterStep w0 invQ vi f).vhp
        vbp := (filterStep w0 invQ vi f).vbp
        vlp := (filterStep w0 invQ vi f).vlp } := rfl

end Sys2Proof.Machine
end

