-- ==== Sys2Proof/Laws/Ops.lean ====
section
/-! SUPPORT. What the TICK and the bus cycles can do, said once for each part of the state. -/

namespace Sys2Proof.Machine

variable (T : Tables) (s : State) (k : VoiceId)

/-! ## The steps of the TICK -/

@[simp] theorem tickEnvelopes_voice :
    (tickEnvelopes s).voice k = { s.voice k with env := envTick (s.voice k).env } := by cases k <;> rfl
@[simp] theorem tickEnvelopes_filter : (tickEnvelopes s).filter = s.filter := rfl
@[simp] theorem tickEnvelopes_ext : (tickEnvelopes s).ext = s.ext := rfl
@[simp] theorem tickEnvelopes_busValue : (tickEnvelopes s).busValue = s.busValue := rfl
@[simp] theorem tickEnvelopes_straps : (tickEnvelopes s).straps = s.straps := rfl
@[simp] theorem tickEnvelopes_inputs : (tickEnvelopes s).inputs = s.inputs := rfl
@[simp] theorem tickEnvelopes_pending : (tickEnvelopes s).pending = s.pending := rfl
@[simp] theorem tickEnvelopes_dataOut : (tickEnvelopes s).dataOut = s.dataOut := rfl

@[simp] theorem tickPhaseA_voice :
    (tickPhaseA s).voice k = { s.voice k with osc := phaseA (s.voice k).osc } := by cases k <;> rfl
@[simp] theorem tickPhaseA_filter : (tickPhaseA s).filter = s.filter := rfl
@[simp] theorem tickPhaseA_ext : (tickPhaseA s).ext = s.ext := rfl
@[simp] theorem tickPhaseA_busValue : (tickPhaseA s).busValue = s.busValue := rfl
@[simp] theorem tickPhaseA_straps : (tickPhaseA s).straps = s.straps := rfl
@[simp] theorem tickPhaseA_inputs : (tickPhaseA s).inputs = s.inputs := rfl
@[simp] theorem tickPhaseA_pending : (tickPhaseA s).pending = s.pending := rfl
@[simp] theorem tickPhaseA_dataOut : (tickPhaseA s).dataOut = s.dataOut := rfl

@[simp] theorem tickPhaseB_voice :
    (tickPhaseB s).voice k =
      { s.voice k with osc := phaseB (s.voice k.src).osc.msbRising (s.voice k).osc } := by cases k <;> rfl
@[simp] theorem tickPhaseB_filter : (tickPhaseB s).filter = s.filter := rfl
@[simp] theorem tickPhaseB_ext : (tickPhaseB s).ext = s.ext := rfl
@[simp] theorem tickPhaseB_busValue : (tickPhaseB s).busValue = s.busValue := rfl
@[simp] theorem tickPhaseB_straps : (tickPhaseB s).straps = s.straps := rfl
@[simp] theorem tickPhaseB_inputs : (tickPhaseB s).inputs = s.inputs := rfl
@[simp] theorem tickPhaseB_pending : (tickPhaseB s).pending = s.pending := rfl
@[simp] theorem tickPhaseB_dataOut : (tickPhaseB s).dataOut = s.dataOut := rfl

@[simp] theorem tickFilter_voice : (tickFilter T s).voice k = s.voice k := by
  unfold tickFilter; split <;> simp
@[simp] theorem tickFilter_ext : (tickFilter T s).ext = s.ext := by unfold tickFilter; split <;> rfl
@[simp] theorem tickFilter_busValue : (tickFilter T s).busValue = s.busValue := by unfold tickFilter; split <;> rfl
@[simp] theorem tickFilter_straps : (tickFilter T s).straps = s.straps := by unfold tickFilter; split <;> rfl
@[simp] theorem tickFilter_inputs : (tickFilter T s).inputs = s.inputs := by unfold tickFilter; split <;> rfl
@[simp] theorem tickFilter_pending : (tickFilter T s).pending = s.pending := by unfold tickFilter; split <;> rfl
@[simp] theorem tickFilter_dataOut : (tickFilter T s).dataOut = s.dataOut := by unfold tickFilter; split <;> rfl

/-- The filter step keeps every register field of the filter. -/
theorem tickFilter_filter :
    (tickFilter T s).filter =
      { s.filter with
        vhp := (tickFilter T s).filter.vhp
        vbp := (tickFilter T s).filter.vbp
        vlp := (tickFilter T s).filter.vlp } := by
  unfold tickFilter; split <;> rfl

@[simp] theorem tickExt_voice : (tickExt T s).voice k = s.voice k := by unfold tickExt; split <;> simp
@[simp] theorem tickExt_filter : (tickExt T s).filter = s.filter := by unfold tickExt; split <;> rfl
@[simp] theorem tickExt_busValue : (tickExt T s).busValue = s.busValue := by unfold tickExt; split <;> rfl
@[simp] theorem tickExt_straps : (tickExt T s).straps = s.straps := by unfold tickExt; split <;> rfl
@[simp] theorem tickExt_inputs : (tickExt T s).inputs = s.inputs := by unfold tickExt; split <;> rfl
@[simp] theorem tickExt_pending : (tickExt T s).pending = s.pending := by unfold tickExt; split <;> rfl
@[simp] theorem tickExt_dataOut : (tickExt T s).dataOut = s.dataOut := by unfold tickExt; split <;> rfl

/-! ## The TICK -/

/-- The whole effect of a TICK on a voice: the envelope step, phase A, then phase B with the flag phase A gave the
source (R174). -/
theorem tick_voice :
    (tick T s).voice k =
      { osc := phaseB (phaseA (s.voice k.src).osc).msbRising (phaseA (s.voice k).osc)
        env := envTick (s.voice k).env } := by
  simp [tick]

/-- The whole effect of a TICK on the filter. -/
theorem tick_filter : (tick T s).filter = (tickFilter T (tickPhaseB (tickPhaseA (tickEnvelopes s)))).filter := by
  simp [tick]

@[simp] theorem tick_busValue : (tick T s).busValue = s.busValue := by simp [tick]
@[simp] theorem tick_straps : (tick T s).straps = s.straps := by simp [tick]
@[simp] theorem tick_inputs : (tick T s).inputs = s.inputs := by simp [tick]
@[simp] theorem tick_pending : (tick T s).pending = s.pending := by simp [tick]
@[simp] theorem tick_dataOut : (tick T s).dataOut = s.dataOut := by simp [tick]

/-! ## Derived values: what they depend on -/

/-- `wave_out` reads two voices and the chip model. -/
theorem waveOut_congr {s t : State} (h : ∀ j, t.voice j = s.voice j) (hm : t.straps.chipModel = s.straps.chipModel) :
    waveOut T t k = waveOut T s k := by
  simp [waveOut, h, hm]

/-- A voice sample reads two voices and the straps. -/
theorem voiceSample_congr {s t : State} (h : ∀ j, t.voice j = s.voice j) (hs : t.straps = s.straps) :
    voiceSample T t k = voiceSample T s k := by
  simp [voiceSample, envOut, waveOut_congr T k h (by rw [hs]), h, hs]

/-- `Vi` reads the voices, the straps, EXT_IN and `filt`. -/
theorem filterIn_congr {s t : State} (h : ∀ j, t.voice j = s.voice j) (hs : t.straps = s.straps)
    (hi : t.inputs = s.inputs) (hf : t.filter.filt = s.filter.filt) : filterIn T t = filterIn T s := by
  simp [filterIn, routeMask, extSample, voiceSample_congr T _ h hs, hs, hi, hf]

/-- `vi` reads the voices, the straps, EXT_IN and the filter. -/
theorem scaledOut_congr {s t : State} (h : ∀ j, t.voice j = s.voice j) (hs : t.straps = s.straps)
    (hi : t.inputs = s.inputs) (hf : t.filter = s.filter) : scaledOut T t = scaledOut T s := by
  simp [scaledOut, internalOut, filterTaps, filterBypass, routeMask, extSample, voiceSample_congr T _ h hs, hs, hi, hf]

end Sys2Proof.Machine
end

