-- ==== Sys2Proof/Laws/Exec.lean ====
section
/-! SUPPORT. What an operation can be and what it does, said once: an operation is RESET, IDLE, a write or a read, and
each has one shape. -/

namespace Sys2Proof.Machine

/-- Every operation is RESET, IDLE, the write at some register or the read at some register (R58). -/
theorem instr_cases (i : Instr) : i = .reset ∨ i = .idle ∨ (∃ r d, i = decodeWr r d) ∨ ∃ r, i = decodeRd r := by
  cases i
  case reset => exact .inl rfl
  case idle => exact .inr (.inl rfl)
  case wrV1FreqLo d => exact .inr (.inr (.inl ⟨.v1FreqLo, d, rfl⟩))
  case wrV1FreqHi d => exact .inr (.inr (.inl ⟨.v1FreqHi, d, rfl⟩))
  case wrV1PwLo d => exact .inr (.inr (.inl ⟨.v1PwLo, d, rfl⟩))
  case wrV1PwHi d => exact .inr (.inr (.inl ⟨.v1PwHi, d, rfl⟩))
  case wrV1Control d => exact .inr (.inr (.inl ⟨.v1Control, d, rfl⟩))
  case wrV1AttackDecay d => exact .inr (.inr (.inl ⟨.v1AttackDecay, d, rfl⟩))
  case wrV1SustainRelease d => exact .inr (.inr (.inl ⟨.v1SustainRelease, d, rfl⟩))
  case wrV2FreqLo d => exact .inr (.inr (.inl ⟨.v2FreqLo, d, rfl⟩))
  case wrV2FreqHi d => exact .inr (.inr (.inl ⟨.v2FreqHi, d, rfl⟩))
  case wrV2PwLo d => exact .inr (.inr (.inl ⟨.v2PwLo, d, rfl⟩))
  case wrV2PwHi d => exact .inr (.inr (.inl ⟨.v2PwHi, d, rfl⟩))
  case wrV2Control d => exact .inr (.inr (.inl ⟨.v2Control, d, rfl⟩))
  case wrV2AttackDecay d => exact .inr (.inr (.inl ⟨.v2AttackDecay, d, rfl⟩))
  case wrV2SustainRelease d => exact .inr (.inr (.inl ⟨.v2SustainRelease, d, rfl⟩))
  case wrV3FreqLo d => exact .inr (.inr (.inl ⟨.v3FreqLo, d, rfl⟩))
  case wrV3FreqHi d => exact .inr (.inr (.inl ⟨.v3FreqHi, d, rfl⟩))
  case wrV3PwLo d => exact .inr (.inr (.inl ⟨.v3PwLo, d, rfl⟩))
  case wrV3PwHi d => exact .inr (.inr (.inl ⟨.v3PwHi, d, rfl⟩))
  case wrV3Control d => exact .inr (.inr (.inl ⟨.v3Control, d, rfl⟩))
  case wrV3AttackDecay d => exact .inr (.inr (.inl ⟨.v3AttackDecay, d, rfl⟩))
  case wrV3SustainRelease d => exact .inr (.inr (.inl ⟨.v3SustainRelease, d, rfl⟩))
  case wrFcLo d => exact .inr (.inr (.inl ⟨.fcLo, d, rfl⟩))
  case wrFcHi d => exact .inr (.inr (.inl ⟨.fcHi, d, rfl⟩))
  case wrResFilt d => exact .inr (.inr (.inl ⟨.resFilt, d, rfl⟩))
  case wrModeVol d => exact .inr (.inr (.inl ⟨.modeVol, d, rfl⟩))
  case wrPotx d => exact .inr (.inr (.inl ⟨.potx, d, rfl⟩))
  case wrPoty d => exact .inr (.inr (.inl ⟨.poty, d, rfl⟩))
  case wrOsc3 d => exact .inr (.inr (.inl ⟨.osc3, d, rfl⟩))
  case wrEnv3 d => exact .inr (.inr (.inl ⟨.env3, d, rfl⟩))
  case wrUnused1D d => exact .inr (.inr (.inl ⟨.unused1D, d, rfl⟩))
  case wrUnused1E d => exact .inr (.inr (.inl ⟨.unused1E, d, rfl⟩))
  case wrUnused1F d => exact .inr (.inr (.inl ⟨.unused1F, d, rfl⟩))
  case rdV1FreqLo => exact .inr (.inr (.inr ⟨.v1FreqLo, rfl⟩))
  case rdV1FreqHi => exact .inr (.inr (.inr ⟨.v1FreqHi, rfl⟩))
  case rdV1PwLo => exact .inr (.inr (.inr ⟨.v1PwLo, rfl⟩))
  case rdV1PwHi => exact .inr (.inr (.inr ⟨.v1PwHi, rfl⟩))
  case rdV1Control => exact .inr (.inr (.inr ⟨.v1Control, rfl⟩))
  case rdV1AttackDecay => exact .inr (.inr (.inr ⟨.v1AttackDecay, rfl⟩))
  case rdV1SustainRelease => exact .inr (.inr (.inr ⟨.v1SustainRelease, rfl⟩))
  case rdV2FreqLo => exact .inr (.inr (.inr ⟨.v2FreqLo, rfl⟩))
  case rdV2FreqHi => exact .inr (.inr (.inr ⟨.v2FreqHi, rfl⟩))
  case rdV2PwLo => exact .inr (.inr (.inr ⟨.v2PwLo, rfl⟩))
  case rdV2PwHi => exact .inr (.inr (.inr ⟨.v2PwHi, rfl⟩))
  case rdV2Control => exact .inr (.inr (.inr ⟨.v2Control, rfl⟩))
  case rdV2AttackDecay => exact .inr (.inr (.inr ⟨.v2AttackDecay, rfl⟩))
  case rdV2SustainRelease => exact .inr (.inr (.inr ⟨.v2SustainRelease, rfl⟩))
  case rdV3FreqLo => exact .inr (.inr (.inr ⟨.v3FreqLo, rfl⟩))
  case rdV3FreqHi => exact .inr (.inr (.inr ⟨.v3FreqHi, rfl⟩))
  case rdV3PwLo => exact .inr (.inr (.inr ⟨.v3PwLo, rfl⟩))
  case rdV3PwHi => exact .inr (.inr (.inr ⟨.v3PwHi, rfl⟩))
  case rdV3Control => exact .inr (.inr (.inr ⟨.v3Control, rfl⟩))
  case rdV3AttackDecay => exact .inr (.inr (.inr ⟨.v3AttackDecay, rfl⟩))
  case rdV3SustainRelease => exact .inr (.inr (.inr ⟨.v3SustainRelease, rfl⟩))
  case rdFcLo => exact .inr (.inr (.inr ⟨.fcLo, rfl⟩))
  case rdFcHi => exact .inr (.inr (.inr ⟨.fcHi, rfl⟩))
  case rdResFilt => exact .inr (.inr (.inr ⟨.resFilt, rfl⟩))
  case rdModeVol => exact .inr (.inr (.inr ⟨.modeVol, rfl⟩))
  case rdPotx => exact .inr (.inr (.inr ⟨.potx, rfl⟩))
  case rdPoty => exact .inr (.inr (.inr ⟨.poty, rfl⟩))
  case rdOsc3 => exact .inr (.inr (.inr ⟨.osc3, rfl⟩))
  case rdEnv3 => exact .inr (.inr (.inr ⟨.env3, rfl⟩))
  case rdUnused1D => exact .inr (.inr (.inr ⟨.unused1D, rfl⟩))
  case rdUnused1E => exact .inr (.inr (.inr ⟨.unused1E, rfl⟩))
  case rdUnused1F => exact .inr (.inr (.inr ⟨.unused1F, rfl⟩))

/-- A write operation is the TICK, then the source's register write at its address (R175). -/
theorem exec_decodeWr (r : Reg) (d : Byte) (s : State) :
    exec (decodeWr r d) s = .next { writeReg r.addr d (tick Config.tables s) with dataOut := none } := by
  cases r <;> rfl

/-- A read operation is the TICK, then DATA_OUT from the source's register read at its address (R175). -/
theorem exec_decodeRd (r : Reg) (s : State) :
    exec (decodeRd r) s =
      .next { tick Config.tables s with dataOut := some (readReg Config.tables r.addr (tick Config.tables s)) } := by
  cases r <;> rfl

theorem exec_reset (s : State) : exec .reset s = .next (resetCycle s) := rfl

theorem exec_idle (s : State) : exec .idle s = .next (idleCycle Config.tables s) := rfl

/-- The next state of an operation, by its kind. -/
theorem exec_inversion {i : Instr} {s t : State} (h : exec i s = .next t) :
    (i = .reset ∧ t = resetCycle s)
    ∨ (i = .idle ∧ t = idleCycle Config.tables s)
    ∨ (∃ r d, i = decodeWr r d ∧ t = { writeReg r.addr d (tick Config.tables s) with dataOut := none })
    ∨ ∃ r, i = decodeRd r
        ∧ t = { tick Config.tables s with dataOut := some (readReg Config.tables r.addr (tick Config.tables s)) } := by
  rcases instr_cases i with rfl | rfl | ⟨r, d, rfl⟩ | ⟨r, rfl⟩
  · exact .inl ⟨rfl, (Host.Outcome.next.inj h).symm⟩
  · exact .inr (.inl ⟨rfl, (Host.Outcome.next.inj h).symm⟩)
  · rw [exec_decodeWr] at h
    exact .inr (.inr (.inl ⟨r, d, rfl, (Host.Outcome.next.inj h).symm⟩))
  · rw [exec_decodeRd] at h
    exact .inr (.inr (.inr ⟨r, rfl, (Host.Outcome.next.inj h).symm⟩))

/-! ## The source's register write, by kind of register -/

/-- The state with the byte on the bus, before the register's own rule (R46). -/
abbrev State.withBus (s : State) (d : Byte) : State := { s with busValue := d }

/-- The register write at each register's address (R46, R61, R62). -/
theorem writeReg_addr (r : Reg) (d : Byte) (s : State) :
    writeReg r.addr d s =
      match r with
      | .v1FreqLo => writeFreqLo .v1 d (s.withBus d)
      | .v1FreqHi => writeFreqHi .v1 d (s.withBus d)
      | .v1PwLo => writePwLo .v1 d (s.withBus d)
      | .v1PwHi => writePwHi .v1 d (s.withBus d)
      | .v1Control => writeControl .v1 d (s.withBus d)
      | .v1AttackDecay => writeAttackDecay .v1 d (s.withBus d)
      | .v1SustainRelease => writeSustainRelease .v1 d (s.withBus d)
      | .v2FreqLo => writeFreqLo .v2 d (s.withBus d)
      | .v2FreqHi => writeFreqHi .v2 d (s.withBus d)
      | .v2PwLo => writePwLo .v2 d (s.withBus d)
      | .v2PwHi => writePwHi .v2 d (s.withBus d)
      | .v2Control => writeControl .v2 d (s.withBus d)
      | .v2AttackDecay => writeAttackDecay .v2 d (s.withBus d)
      | .v2SustainRelease => writeSustainRelease .v2 d (s.withBus d)
      | .v3FreqLo => writeFreqLo .v3 d (s.withBus d)
      | .v3FreqHi => writeFreqHi .v3 d (s.withBus d)
      | .v3PwLo => writePwLo .v3 d (s.withBus d)
      | .v3PwHi => writePwHi .v3 d (s.withBus d)
      | .v3Control => writeControl .v3 d (s.withBus d)
      | .v3AttackDecay => writeAttackDecay .v3 d (s.withBus d)
      | .v3SustainRelease => writeSustainRelease .v3 d (s.withBus d)
      | .fcLo => writeFcLo d (s.withBus d)
      | .fcHi => writeFcHi d (s.withBus d)
      | .resFilt => writeResFilt d (s.withBus d)
      | .modeVol => writeModeVol d (s.withBus d)
      | .potx => s.withBus d
      | .poty => s.withBus d
      | .osc3 => s.withBus d
      | .env3 => s.withBus d
      | .unused1D => s.withBus d
      | .unused1E => s.withBus d
      | .unused1F => s.withBus d := by
  cases r <;> rfl

/-- What a register write changes beside `bus_value`: a register field of one oscillator, one voice by CONTROL, the
nibbles of one envelope, the filter's register fields, or nothing. -/
theorem writeReg_cases (r : Reg) (d : Byte) (s : State) :
    (∃ k f, writeReg r.addr d s = (s.withBus d).updOsc k f
        ∧ ∀ o, (f o).acc = o.acc ∧ (f o).lfsr = o.lfsr ∧ (f o).msbRising = o.msbRising ∧ (f o).test = o.test)
    ∨ (∃ k, writeReg r.addr d s = writeControl k d (s.withBus d)
        ∧ decodeWr r d = k.wrControl d)
    ∨ (∃ k g, writeReg r.addr d s = (s.withBus d).updEnv k g
        ∧ ∀ e, (g e).gate = e.gate ∧ (g e).envState = e.envState ∧ (g e).rateCounter = e.rateCounter
          ∧ (g e).expCounter = e.expCounter ∧ (g e).envelopeCounter = e.envelopeCounter)
    ∨ (∃ f, writeReg r.addr d s = { s with busValue := d, filter := f }
        ∧ f.vhp = s.filter.vhp ∧ f.vbp = s.filter.vbp ∧ f.vlp = s.filter.vlp)
    ∨ writeReg r.addr d s = s.withBus d := by
  cases r
  case v1FreqLo => exact .inl ⟨.v1, _, writeReg_addr _ d s, fun _ => ⟨rfl, rfl, rfl, rfl⟩⟩
  case v1FreqHi => exact .inl ⟨.v1, _, writeReg_addr _ d s, fun _ => ⟨rfl, rfl, rfl, rfl⟩⟩
  case v1PwLo => exact .inl ⟨.v1, _, writeReg_addr _ d s, fun _ => ⟨rfl, rfl, rfl, rfl⟩⟩
  case v1PwHi => exact .inl ⟨.v1, _, writeReg_addr _ d s, fun _ => ⟨rfl, rfl, rfl, rfl⟩⟩
  case v1Control => exact .inr (.inl ⟨.v1, writeReg_addr _ d s, rfl⟩)
  case v1AttackDecay => exact .inr (.inr (.inl ⟨.v1, _, writeReg_addr _ d s, fun _ => ⟨rfl, rfl, rfl, rfl, rfl⟩⟩))
  case v1SustainRelease => exact .inr (.inr (.inl ⟨.v1, _, writeReg_addr _ d s, fun _ => ⟨rfl, rfl, rfl, rfl, rfl⟩⟩))
  case v2FreqLo => exact .inl ⟨.v2, _, writeReg_addr _ d s, fun _ => ⟨rfl, rfl, rfl, rfl⟩⟩
  case v2FreqHi => exact .inl ⟨.v2, _, writeReg_addr _ d s, fun _ => ⟨rfl, rfl, rfl, rfl⟩⟩
  case v2PwLo => exact .inl ⟨.v2, _, writeReg_addr _ d s, fun _ => ⟨rfl, rfl, rfl, rfl⟩⟩
  case v2PwHi => exact .inl ⟨.v2, _, writeReg_addr _ d s, fun _ => ⟨rfl, rfl, rfl, rfl⟩⟩
  case v2Control => exact .inr (.inl ⟨.v2, writeReg_addr _ d s, rfl⟩)
  case v2AttackDecay => exact .inr (.inr (.inl ⟨.v2, _, writeReg_addr _ d s, fun _ => ⟨rfl, rfl, rfl, rfl, rfl⟩⟩))
  case v2SustainRelease => exact .inr (.inr (.inl ⟨.v2, _, writeReg_addr _ d s, fun _ => ⟨rfl, rfl, rfl, rfl, rfl⟩⟩))
  case v3FreqLo => exact .inl ⟨.v3, _, writeReg_addr _ d s, fun _ => ⟨rfl, rfl, rfl, rfl⟩⟩
  case v3FreqHi => exact .inl ⟨.v3, _, writeReg_addr _ d s, fun _ => ⟨rfl, rfl, rfl, rfl⟩⟩
  case v3PwLo => exact .inl ⟨.v3, _, writeReg_addr _ d s, fun _ => ⟨rfl, rfl, rfl, rfl⟩⟩
  case v3PwHi => exact .inl ⟨.v3, _, writeReg_addr _ d s, fun _ => ⟨rfl, rfl, rfl, rfl⟩⟩
  case v3Control => exact .inr (.inl ⟨.v3, writeReg_addr _ d s, rfl⟩)
  case v3AttackDecay => exact .inr (.inr (.inl ⟨.v3, _, writeReg_addr _ d s, fun _ => ⟨rfl, rfl, rfl, rfl, rfl⟩⟩))
  case v3SustainRelease => exact .inr (.inr (.inl ⟨.v3, _, writeReg_addr _ d s, fun _ => ⟨rfl, rfl, rfl, rfl, rfl⟩⟩))
  case fcLo => exact .inr (.inr (.inr (.inl ⟨_, writeReg_addr _ d s, rfl, rfl, rfl⟩)))
  case fcHi => exact .inr (.inr (.inr (.inl ⟨_, writeReg_addr _ d s, rfl, rfl, rfl⟩)))
  case resFilt => exact .inr (.inr (.inr (.inl ⟨_, writeReg_addr _ d s, rfl, rfl, rfl⟩)))
  case modeVol => exact .inr (.inr (.inr (.inl ⟨_, writeReg_addr _ d s, rfl, rfl, rfl⟩)))
  case potx => exact .inr (.inr (.inr (.inr (writeReg_addr _ d s))))
  case poty => exact .inr (.inr (.inr (.inr (writeReg_addr _ d s))))
  case osc3 => exact .inr (.inr (.inr (.inr (writeReg_addr _ d s))))
  case env3 => exact .inr (.inr (.inr (.inr (writeReg_addr _ d s))))
  case unused1D => exact .inr (.inr (.inr (.inr (writeReg_addr _ d s))))
  case unused1E => exact .inr (.inr (.inr (.inr (writeReg_addr _ d s))))
  case unused1F => exact .inr (.inr (.inr (.inr (writeReg_addr _ d s))))

/-- No register write touches the straps, the inputs or what is still to be presented. -/
theorem writeReg_outside (r : Reg) (d : Byte) (s : State) :
    (writeReg r.addr d s).straps = s.straps ∧ (writeReg r.addr d s).inputs = s.inputs
      ∧ (writeReg r.addr d s).pending = s.pending ∧ (writeReg r.addr d s).ext = s.ext
      ∧ (writeReg r.addr d s).busValue = d := by
  rcases writeReg_cases r d s with ⟨k, f, h, -⟩ | ⟨k, h, -⟩ | ⟨k, g, h, -⟩ | ⟨f, h, -⟩ | h <;> rw [h] <;>
    simp [writeControl]

end Sys2Proof.Machine
end

