-- ==== Sys2Proof/Laws/PerInstr.lean ====
section
/-! SUPPORT. Statements made for every constructor of Instr, one lemma each. -/

namespace Sys2Proof.Laws.RowMatch

open Sys2Proof

/-- The operation's own encoding belongs to the row of the opcode table that carries its mnemonic (R58, R78). -/
def Statement (i : Instr) : Prop := ∃ r ∈ opcodeTable, r.mnemonic = i.mnemonic ∧ r.covers (encode i) = true

/-- A WR word belongs to the row with its address, whatever its data byte. -/
theorem wr_covers (m : String) (p : CycleWord) (a : Addr) (d : Byte) (h : 0b010#3 ++ a ++ 0#8 = p) :
    OpcodeRow.covers ⟨m, 0xff00#16, p⟩ (wrWord a d) = true := by
  rw [OpcodeRow.covers, wrWord_mask, h]
  exact beq_self_eq_true p

theorem reset : Statement .reset := ⟨⟨"RESET", 0x8000#16, 0x8000#16⟩, by decide, rfl, rfl⟩
theorem idle : Statement .idle := ⟨⟨"IDLE", 0xC000#16, 0x0000#16⟩, by decide, rfl, rfl⟩
theorem wrV1FreqLo (d : Byte) : Statement (.wrV1FreqLo d) :=
  ⟨⟨"WR_V1.FREQ_LO", 0xff00#16, 0x4000#16⟩, by decide, rfl, wr_covers _ _ _ d rfl⟩
theorem wrV1FreqHi (d : Byte) : Statement (.wrV1FreqHi d) :=
  ⟨⟨"WR_V1.FREQ_HI", 0xff00#16, 0x4100#16⟩, by decide, rfl, wr_covers _ _ _ d rfl⟩
theorem wrV1PwLo (d : Byte) : Statement (.wrV1PwLo d) :=
  ⟨⟨"WR_V1.PW_LO", 0xff00#16, 0x4200#16⟩, by decide, rfl, wr_covers _ _ _ d rfl⟩
theorem wrV1PwHi (d : Byte) : Statement (.wrV1PwHi d) :=
  ⟨⟨"WR_V1.PW_HI", 0xff00#16, 0x4300#16⟩, by decide, rfl, wr_covers _ _ _ d rfl⟩
theorem wrV1Control (d : Byte) : Statement (.wrV1Control d) :=
  ⟨⟨"WR_V1.CONTROL", 0xff00#16, 0x4400#16⟩, by decide, rfl, wr_covers _ _ _ d rfl⟩
theorem wrV1AttackDecay (d : Byte) : Statement (.wrV1AttackDecay d) :=
  ⟨⟨"WR_V1.ATTACK_DECAY", 0xff00#16, 0x4500#16⟩, by decide, rfl, wr_covers _ _ _ d rfl⟩
theorem wrV1SustainRelease (d : Byte) : Statement (.wrV1SustainRelease d) :=
  ⟨⟨"WR_V1.SUSTAIN_RELEASE", 0xff00#16, 0x4600#16⟩, by decide, rfl, wr_covers _ _ _ d rfl⟩
theorem wrV2FreqLo (d : Byte) : Statement (.wrV2FreqLo d) :=
  ⟨⟨"WR_V2.FREQ_LO", 0xff00#16, 0x4700#16⟩, by decide, rfl, wr_covers _ _ _ d rfl⟩
theorem wrV2FreqHi (d : Byte) : Statement (.wrV2FreqHi d) :=
  ⟨⟨"WR_V2.FREQ_HI", 0xff00#16, 0x4800#16⟩, by decide, rfl, wr_covers _ _ _ d rfl⟩
theorem wrV2PwLo (d : Byte) : Statement (.wrV2PwLo d) :=
  ⟨⟨"WR_V2.PW_LO", 0xff00#16, 0x4900#16⟩, by decide, rfl, wr_covers _ _ _ d rfl⟩
theorem wrV2PwHi (d : Byte) : Statement (.wrV2PwHi d) :=
  ⟨⟨"WR_V2.PW_HI", 0xff00#16, 0x4A00#16⟩, by decide, rfl, wr_covers _ _ _ d rfl⟩
theorem wrV2Control (d : Byte) : Statement (.wrV2Control d) :=
  ⟨⟨"WR_V2.CONTROL", 0xff00#16, 0x4B00#16⟩, by decide, rfl, wr_covers _ _ _ d rfl⟩
theorem wrV2AttackDecay (d : Byte) : Statement (.wrV2AttackDecay d) :=
  ⟨⟨"WR_V2.ATTACK_DECAY", 0xff00#16, 0x4C00#16⟩, by decide, rfl, wr_covers _ _ _ d rfl⟩
theorem wrV2SustainRelease (d : Byte) : Statement (.wrV2SustainRelease d) :=
  ⟨⟨"WR_V2.SUSTAIN_RELEASE", 0xff00#16, 0x4D00#16⟩, by decide, rfl, wr_covers _ _ _ d rfl⟩
theorem wrV3FreqLo (d : Byte) : Statement (.wrV3FreqLo d) :=
  ⟨⟨"WR_V3.FREQ_LO", 0xff00#16, 0x4E00#16⟩, by decide, rfl, wr_covers _ _ _ d rfl⟩
theorem wrV3FreqHi (d : Byte) : Statement (.wrV3FreqHi d) :=
  ⟨⟨"WR_V3.FREQ_HI", 0xff00#16, 0x4F00#16⟩, by decide, rfl, wr_covers _ _ _ d rfl⟩
theorem wrV3PwLo (d : Byte) : Statement (.wrV3PwLo d) :=
  ⟨⟨"WR_V3.PW_LO", 0xff00#16, 0x5000#16⟩, by decide, rfl, wr_covers _ _ _ d rfl⟩
theorem wrV3PwHi (d : Byte) : Statement (.wrV3PwHi d) :=
  ⟨⟨"WR_V3.PW_HI", 0xff00#16, 0x5100#16⟩, by decide, rfl, wr_covers _ _ _ d rfl⟩
theorem wrV3Control (d : Byte) : Statement (.wrV3Control d) :=
  ⟨⟨"WR_V3.CONTROL", 0xff00#16, 0x5200#16⟩, by decide, rfl, wr_covers _ _ _ d rfl⟩
theorem wrV3AttackDecay (d : Byte) : Statement (.wrV3AttackDecay d) :=
  ⟨⟨"WR_V3.ATTACK_DECAY", 0xff00#16, 0x5300#16⟩, by decide, rfl, wr_covers _ _ _ d rfl⟩
theorem wrV3SustainRelease (d : Byte) : Statement (.wrV3SustainRelease d) :=
  ⟨⟨"WR_V3.SUSTAIN_RELEASE", 0xff00#16, 0x5400#16⟩, by decide, rfl, wr_covers _ _ _ d rfl⟩
theorem wrFcLo (d : Byte) : Statement (.wrFcLo d) :=
  ⟨⟨"WR_FC_LO", 0xff00#16, 0x5500#16⟩, by decide, rfl, wr_covers _ _ _ d rfl⟩
theorem wrFcHi (d : Byte) : Statement (.wrFcHi d) :=
  ⟨⟨"WR_FC_HI", 0xff00#16, 0x5600#16⟩, by decide, rfl, wr_covers _ _ _ d rfl⟩
theorem wrResFilt (d : Byte) : Statement (.wrResFilt d) :=
  ⟨⟨"WR_RES_FILT", 0xff00#16, 0x5700#16⟩, by decide, rfl, wr_covers _ _ _ d rfl⟩
theorem wrModeVol (d : Byte) : Statement (.wrModeVol d) :=
  ⟨⟨"WR_MODE_VOL", 0xff00#16, 0x5800#16⟩, by decide, rfl, wr_covers _ _ _ d rfl⟩
theorem wrPotx (d : Byte) : Statement (.wrPotx d) :=
  ⟨⟨"WR_POTX", 0xff00#16, 0x5900#16⟩, by decide, rfl, wr_covers _ _ _ d rfl⟩
theorem wrPoty (d : Byte) : Statement (.wrPoty d) :=
  ⟨⟨"WR_POTY", 0xff00#16, 0x5A00#16⟩, by decide, rfl, wr_covers _ _ _ d rfl⟩
theorem wrOsc3 (d : Byte) : Statement (.wrOsc3 d) :=
  ⟨⟨"WR_OSC3", 0xff00#16, 0x5B00#16⟩, by decide, rfl, wr_covers _ _ _ d rfl⟩
theorem wrEnv3 (d : Byte) : Statement (.wrEnv3 d) :=
  ⟨⟨"WR_ENV3", 0xff00#16, 0x5C00#16⟩, by decide, rfl, wr_covers _ _ _ d rfl⟩
theorem wrUnused1D (d : Byte) : Statement (.wrUnused1D d) :=
  ⟨⟨"WR_UNUSED_1D", 0xff00#16, 0x5D00#16⟩, by decide, rfl, wr_covers _ _ _ d rfl⟩
theorem wrUnused1E (d : Byte) : Statement (.wrUnused1E d) :=
  ⟨⟨"WR_UNUSED_1E", 0xff00#16, 0x5E00#16⟩, by decide, rfl, wr_covers _ _ _ d rfl⟩
theorem wrUnused1F (d : Byte) : Statement (.wrUnused1F d) :=
  ⟨⟨"WR_UNUSED_1F", 0xff00#16, 0x5F00#16⟩, by decide, rfl, wr_covers _ _ _ d rfl⟩
theorem rdV1FreqLo : Statement .rdV1FreqLo := ⟨⟨"RD_V1.FREQ_LO", 0xFF00#16, 0x6000#16⟩, by decide, rfl, rfl⟩
theorem rdV1FreqHi : Statement .rdV1FreqHi := ⟨⟨"RD_V1.FREQ_HI", 0xFF00#16, 0x6100#16⟩, by decide, rfl, rfl⟩
theorem rdV1PwLo : Statement .rdV1PwLo := ⟨⟨"RD_V1.PW_LO", 0xFF00#16, 0x6200#16⟩, by decide, rfl, rfl⟩
theorem rdV1PwHi : Statement .rdV1PwHi := ⟨⟨"RD_V1.PW_HI", 0xFF00#16, 0x6300#16⟩, by decide, rfl, rfl⟩
theorem rdV1Control : Statement .rdV1Control := ⟨⟨"RD_V1.CONTROL", 0xFF00#16, 0x6400#16⟩, by decide, rfl, rfl⟩
theorem rdV1AttackDecay : Statement .rdV1AttackDecay := ⟨⟨"RD_V1.ATTACK_DECAY", 0xFF00#16, 0x6500#16⟩, by decide, rfl, rfl⟩
theorem rdV1SustainRelease : Statement .rdV1SustainRelease := ⟨⟨"RD_V1.SUSTAIN_RELEASE", 0xFF00#16, 0x6600#16⟩, by decide, rfl, rfl⟩
theorem rdV2FreqLo : Statement .rdV2FreqLo := ⟨⟨"RD_V2.FREQ_LO", 0xFF00#16, 0x6700#16⟩, by decide, rfl, rfl⟩
theorem rdV2FreqHi : Statement .rdV2FreqHi := ⟨⟨"RD_V2.FREQ_HI", 0xFF00#16, 0x6800#16⟩, by decide, rfl, rfl⟩
theorem rdV2PwLo : Statement .rdV2PwLo := ⟨⟨"RD_V2.PW_LO", 0xFF00#16, 0x6900#16⟩, by decide, rfl, rfl⟩
theorem rdV2PwHi : Statement .rdV2PwHi := ⟨⟨"RD_V2.PW_HI", 0xFF00#16, 0x6A00#16⟩, by decide, rfl, rfl⟩
theorem rdV2Control : Statement .rdV2Control := ⟨⟨"RD_V2.CONTROL", 0xFF00#16, 0x6B00#16⟩, by decide, rfl, rfl⟩
theorem rdV2AttackDecay : Statement .rdV2AttackDecay := ⟨⟨"RD_V2.ATTACK_DECAY", 0xFF00#16, 0x6C00#16⟩, by decide, rfl, rfl⟩
theorem rdV2SustainRelease : Statement .rdV2SustainRelease := ⟨⟨"RD_V2.SUSTAIN_RELEASE", 0xFF00#16, 0x6D00#16⟩, by decide, rfl, rfl⟩
theorem rdV3FreqLo : Statement .rdV3FreqLo := ⟨⟨"RD_V3.FREQ_LO", 0xFF00#16, 0x6E00#16⟩, by decide, rfl, rfl⟩
theorem rdV3FreqHi : Statement .rdV3FreqHi := ⟨⟨"RD_V3.FREQ_HI", 0xFF00#16, 0x6F00#16⟩, by decide, rfl, rfl⟩
theorem rdV3PwLo : Statement .rdV3PwLo := ⟨⟨"RD_V3.PW_LO", 0xFF00#16, 0x7000#16⟩, by decide, rfl, rfl⟩
theorem rdV3PwHi : Statement .rdV3PwHi := ⟨⟨"RD_V3.PW_HI", 0xFF00#16, 0x7100#16⟩, by decide, rfl, rfl⟩
theorem rdV3Control : Statement .rdV3Control := ⟨⟨"RD_V3.CONTROL", 0xFF00#16, 0x7200#16⟩, by decide, rfl, rfl⟩
theorem rdV3AttackDecay : Statement .rdV3AttackDecay := ⟨⟨"RD_V3.ATTACK_DECAY", 0xFF00#16, 0x7300#16⟩, by decide, rfl, rfl⟩
theorem rdV3SustainRelease : Statement .rdV3SustainRelease := ⟨⟨"RD_V3.SUSTAIN_RELEASE", 0xFF00#16, 0x7400#16⟩, by decide, rfl, rfl⟩
theorem rdFcLo : Statement .rdFcLo := ⟨⟨"RD_FC_LO", 0xFF00#16, 0x7500#16⟩, by decide, rfl, rfl⟩
theorem rdFcHi : Statement .rdFcHi := ⟨⟨"RD_FC_HI", 0xFF00#16, 0x7600#16⟩, by decide, rfl, rfl⟩
theorem rdResFilt : Statement .rdResFilt := ⟨⟨"RD_RES_FILT", 0xFF00#16, 0x7700#16⟩, by decide, rfl, rfl⟩
theorem rdModeVol : Statement .rdModeVol := ⟨⟨"RD_MODE_VOL", 0xFF00#16, 0x7800#16⟩, by decide, rfl, rfl⟩
theorem rdPotx : Statement .rdPotx := ⟨⟨"RD_POTX", 0xFF00#16, 0x7900#16⟩, by decide, rfl, rfl⟩
theorem rdPoty : Statement .rdPoty := ⟨⟨"RD_POTY", 0xFF00#16, 0x7A00#16⟩, by decide, rfl, rfl⟩
theorem rdOsc3 : Statement .rdOsc3 := ⟨⟨"RD_OSC3", 0xFF00#16, 0x7B00#16⟩, by decide, rfl, rfl⟩
theorem rdEnv3 : Statement .rdEnv3 := ⟨⟨"RD_ENV3", 0xFF00#16, 0x7C00#16⟩, by decide, rfl, rfl⟩
theorem rdUnused1D : Statement .rdUnused1D := ⟨⟨"RD_UNUSED_1D", 0xFF00#16, 0x7D00#16⟩, by decide, rfl, rfl⟩
theorem rdUnused1E : Statement .rdUnused1E := ⟨⟨"RD_UNUSED_1E", 0xFF00#16, 0x7E00#16⟩, by decide, rfl, rfl⟩
theorem rdUnused1F : Statement .rdUnused1F := ⟨⟨"RD_UNUSED_1F", 0xFF00#16, 0x7F00#16⟩, by decide, rfl, rfl⟩

end Sys2Proof.Laws.RowMatch
end

