-- ==== Sys2Proof/Tests/Slice0.lean ====
section
/-! SUPPORT. Tests on fixed values and, for every obligation with hypotheses, a witness that meets them. The expected
values are those of 95_test_vectors.md (its section stands in each heading), 30_encoding.md and the rules' examples. -/

namespace Sys2Proof.Tests

open Sys2Proof Sys2Proof.Machine

/-! ## Well-formedness: what the check refuses (R76), and what it accepts (R74) -/

theorem test_wf_number_32_refused : (RegOperand.number 32).wf = false := by decide
theorem test_wf_number_31_accepted : (RegOperand.number 31).wf = true := by decide
theorem test_wf_name_of_unused_refused : (RegOperand.name .unused1D).wf = false := by decide
theorem test_wf_name_env3_accepted : (RegOperand.name .env3).wf = true := by decide
theorem test_wf_byte_256_refused : (ScriptLine.w (.name .modeVol) 256).wf = false := by decide
theorem test_wf_w_bad_register_refused : (ScriptLine.w (.number 32) 0).wf = false := by decide
theorem test_wf_r_bad_register_refused : (ScriptLine.r (.number 99)).wf = false := by decide
theorem test_wf_byte_255_accepted : (ScriptLine.w (.number 31) 255).wf = true := by decide

/-! ## Decoding, the words bit by bit from R57, R58 and R61 -/

theorem test_decode_reset :
    decode 0b1000000000000000#16 = .reset ∧ decode 0b1111111111111111#16 = .reset := by decide

theorem test_decode_idle :
    decode 0b0000000000000000#16 = .idle ∧ decode 0b0011111111111111#16 = .idle := by decide

theorem test_decode_wr_v1 :
    decode 0b0100000000000000#16 = .wrV1FreqLo 0x00#8
      ∧ decode 0b0100000111111111#16 = .wrV1FreqHi 0xFF#8
      ∧ decode 0b0100001010100101#16 = .wrV1PwLo 0xA5#8
      ∧ decode 0b0100001101011010#16 = .wrV1PwHi 0x5A#8
      ∧ decode 0b0100010010000000#16 = .wrV1Control 0x80#8
      ∧ decode 0b0100010100000001#16 = .wrV1AttackDecay 0x01#8
      ∧ decode 0b0100011000111100#16 = .wrV1SustainRelease 0x3C#8 := by decide

theorem test_decode_rd_v1 :
    decode 0b0110000001011010#16 = .rdV1FreqLo
      ∧ decode 0b0110000110000000#16 = .rdV1FreqHi
      ∧ decode 0b0110001000000001#16 = .rdV1PwLo
      ∧ decode 0b0110001100111100#16 = .rdV1PwHi
      ∧ decode 0b0110010000000000#16 = .rdV1Control
      ∧ decode 0b0110010111111111#16 = .rdV1AttackDecay
      ∧ decode 0b0110011010100101#16 = .rdV1SustainRelease := by decide

theorem test_decode_wr_v2 :
    decode 0b0100011100000000#16 = .wrV2FreqLo 0x00#8
      ∧ decode 0b0100100011111111#16 = .wrV2FreqHi 0xFF#8
      ∧ decode 0b0100100110100101#16 = .wrV2PwLo 0xA5#8
      ∧ decode 0b0100101001011010#16 = .wrV2PwHi 0x5A#8
      ∧ decode 0b0100101110000000#16 = .wrV2Control 0x80#8
      ∧ decode 0b0100110000000001#16 = .wrV2AttackDecay 0x01#8
      ∧ decode 0b0100110100111100#16 = .wrV2SustainRelease 0x3C#8 := by decide

theorem test_decode_rd_v2 :
    decode 0b0110011101011010#16 = .rdV2FreqLo
      ∧ decode 0b0110100010000000#16 = .rdV2FreqHi
      ∧ decode 0b0110100100000001#16 = .rdV2PwLo
      ∧ decode 0b0110101000111100#16 = .rdV2PwHi
      ∧ decode 0b0110101100000000#16 = .rdV2Control
      ∧ decode 0b0110110011111111#16 = .rdV2AttackDecay
      ∧ decode 0b0110110110100101#16 = .rdV2SustainRelease := by decide

theorem test_decode_wr_v3 :
    decode 0b0100111000000000#16 = .wrV3FreqLo 0x00#8
      ∧ decode 0b0100111111111111#16 = .wrV3FreqHi 0xFF#8
      ∧ decode 0b0101000010100101#16 = .wrV3PwLo 0xA5#8
      ∧ decode 0b0101000101011010#16 = .wrV3PwHi 0x5A#8
      ∧ decode 0b0101001010000000#16 = .wrV3Control 0x80#8
      ∧ decode 0b0101001100000001#16 = .wrV3AttackDecay 0x01#8
      ∧ decode 0b0101010000111100#16 = .wrV3SustainRelease 0x3C#8 := by decide

theorem test_decode_rd_v3 :
    decode 0b0110111001011010#16 = .rdV3FreqLo
      ∧ decode 0b0110111110000000#16 = .rdV3FreqHi
      ∧ decode 0b0111000000000001#16 = .rdV3PwLo
      ∧ decode 0b0111000100111100#16 = .rdV3PwHi
      ∧ decode 0b0111001000000000#16 = .rdV3Control
      ∧ decode 0b0111001111111111#16 = .rdV3AttackDecay
      ∧ decode 0b0111010010100101#16 = .rdV3SustainRelease := by decide

theorem test_decode_wr_filter :
    decode 0b0101010100000000#16 = .wrFcLo 0x00#8
      ∧ decode 0b0101011011111111#16 = .wrFcHi 0xFF#8
      ∧ decode 0b0101011110100101#16 = .wrResFilt 0xA5#8
      ∧ decode 0b0101100001011010#16 = .wrModeVol 0x5A#8 := by decide

theorem test_decode_rd_filter :
    decode 0b0111010101011010#16 = .rdFcLo
      ∧ decode 0b0111011010000000#16 = .rdFcHi
      ∧ decode 0b0111011100000001#16 = .rdResFilt
      ∧ decode 0b0111100000111100#16 = .rdModeVol := by decide

theorem test_decode_wr_high :
    decode 0b0101100100000000#16 = .wrPotx 0x00#8
      ∧ decode 0b0101101011111111#16 = .wrPoty 0xFF#8
      ∧ decode 0b0101101110100101#16 = .wrOsc3 0xA5#8
      ∧ decode 0b0101110001011010#16 = .wrEnv3 0x5A#8
      ∧ decode 0b0101110110000000#16 = .wrUnused1D 0x80#8
      ∧ decode 0b0101111000000001#16 = .wrUnused1E 0x01#8
      ∧ decode 0b0101111100111100#16 = .wrUnused1F 0x3C#8 := by decide

theorem test_decode_rd_high :
    decode 0b0111100101011010#16 = .rdPotx
      ∧ decode 0b0111101010000000#16 = .rdPoty
      ∧ decode 0b0111101100000001#16 = .rdOsc3
      ∧ decode 0b0111110000111100#16 = .rdEnv3
      ∧ decode 0b0111110100000000#16 = .rdUnused1D
      ∧ decode 0b0111111011111111#16 = .rdUnused1E
      ∧ decode 0b0111111110100101#16 = .rdUnused1F := by decide

theorem test_decode_table_word :
    decodeTableWord 16 0x4421 = some (.wrV1Control 0x21#8) ∧ decodeTableWord 16 0x8000 = some .reset
      ∧ decodeTableWord 16 0x7F00 = some .rdUnused1F := by decide

/-- Scripts of P1 and of R76. -/
theorem test_script_words :
    scriptWords [.rst, .w (.name .v3FreqHi) 0x10, .w (.name .v3Control) 0x20, .t 2, .r (.name .osc3), .r (.number 0)]
      = [0x8000#16, 0x4F10#16, 0x5220#16, 0x0000#16, 0x0000#16, 0x7B00#16, 0x6000#16] := by decide

/-! ## Small states -/

/-- Reset with voice 1's oscillator given. -/
def withOsc1 (o : Osc) : State := { State.reset with voice1 := { Voice.atReset with osc := o } }

/-- Reset with voice 3's oscillator given. -/
def withOsc3 (o : Osc) : State := { State.reset with voice3 := { Voice.atReset with osc := o } }

/-- Reset with voice 3's envelope given. -/
def withEnv3 (e : Env) : State := { State.reset with voice3 := { Voice.atReset with env := e } }

/-- Reset with the filter given. -/
def withFilter (f : Filter) : State := { State.reset with filter := f }

/-- Reset with both filters bypassed. -/
def bypassed : State := { State.reset with straps := { Straps.atDefault with filterEn := false, extfiltEn := false } }

/-- The state after one operation. -/
def after (i : Instr) (s : State) : State :=
  match exec i s with
  | .next t => t
  | .fault _ => s
  | .refused _ => s

/-! ## One step of each operation -/

/-- The voice fields of P5's end state, with the byte on the bus and an input that is not the default. -/
def busy : State :=
  { bypassed with
    voice1 :=
      { osc := { Osc.atReset with freq := 0x1000#16, waveform := 2#4, acc := 0x066000#24 }
        env := { Env.atReset with sustain := 15#4, gate := true, envelopeCounter := 12#8, envState := .attack } }
    busValue := 0x21#8
    inputs := { Inputs.atDefault with potX := 0x12#8, potY := 0x34#8 }
    dataOut := some 0x21#8 }

/-- 2.11. -/
theorem test_reset : exec .reset busy = .next { bypassed with inputs := busy.inputs } := by rfl

/-- V-ACC-3, and the rate counter of V-ENV-8. -/
theorem test_idle_phase :
    let t := after .idle (withOsc3 { Osc.atReset with acc := 0x07F000#24, freq := 0x1000#16 })
    t.voice3.osc.acc = 0x080000#24 ∧ t.voice3.osc.lfsr = 0x7FFFF0#23 ∧ t.voice3.env.rateCounter = 1#15
      ∧ t.dataOut = none := by decide

/-- S3, TICK 1024: voice 1's MSB rises and voice 2 is cleared. -/
theorem test_idle_hard_sync :
    let t := after .idle
      { State.reset with
        voice1 := { Voice.atReset with osc := { Osc.atReset with freq := 0x2000#16, acc := 0x7FE000#24 } }
        voice2 := { Voice.atReset with osc := { Osc.atReset with freq := 0x0800#16, acc := 0x1FF800#24, sync := true } } }
    t.voice1.osc.acc = 0x800000#24 ∧ t.voice1.osc.msbRising = true ∧ t.voice2.osc.acc = 0 := by decide

/-- 2.2. -/
theorem test_wr_freq_lo :
    (after (.wrV1FreqLo 0x34#8) State.reset).voice1.osc.freq = 0x0034#16
      ∧ (after (.wrV2FreqLo 0x34#8) State.reset).voice2.osc.freq = 0x0034#16
      ∧ (after (.wrV3FreqLo 0x34#8) State.reset).voice3.osc.freq = 0x0034#16 := by decide

/-- 2.2 and R82: the byte goes to the upper half. -/
theorem test_wr_freq_hi :
    (after (.wrV1FreqHi 0x12#8) (withOsc1 { Osc.atReset with freq := 0x0034#16 })).voice1.osc.freq = 0x1234#16
      ∧ (after (.wrV2FreqHi 0x12#8) State.reset).voice2.osc.freq = 0x1200#16
      ∧ (after (.wrV3FreqHi 0x12#8) State.reset).voice3.osc.freq = 0x1200#16 := by decide

/-- R83's example and 2.2. -/
theorem test_wr_pw_lo :
    (after (.wrV1PwLo 0x34#8) (withOsc1 { Osc.atReset with pw := 0x800#12 })).voice1.osc.pw = 0x834#12
      ∧ (after (.wrV2PwLo 0x34#8) State.reset).voice2.osc.pw = 0x034#12
      ∧ (after (.wrV3PwLo 0x34#8) State.reset).voice3.osc.pw = 0x034#12 := by decide

/-- R84's example and 2.2: the upper nibble is discarded. -/
theorem test_wr_pw_hi :
    (after (.wrV1PwHi 0xF8#8) (withOsc1 { Osc.atReset with pw := 0x034#12 })).voice1.osc.pw = 0x834#12
      ∧ (after (.wrV2PwHi 0xF8#8) State.reset).voice2.osc.pw = 0x800#12
      ∧ (after (.wrV3PwHi 0xF8#8) State.reset).voice3.osc.pw = 0x800#12 := by decide

/-- 2.2: noise, ring modulation and sync, no gate. -/
theorem test_wr_control_fields :
    let o1 := (after (.wrV1Control 0x86#8) State.reset).voice1.osc
    let o2 := (after (.wrV2Control 0x86#8) State.reset).voice2.osc
    let o3 := (after (.wrV3Control 0x86#8) State.reset).voice3.osc
    o1 = { Osc.atReset with waveform := 0b1000#4, ringMod := true, sync := true } ∧ o2 = o1 ∧ o3 = o1 := by decide

/-- V-TEST-1 with the gate of 2.6: TEST clears the accumulator and the noise register, the gate starts the attack. -/
theorem test_wr_control_test_and_gate :
    let t1 := after (.wrV1Control 0x09#8) (withOsc1 { Osc.atReset with acc := 0x123456#24, lfsr := 0x1ABCDE#23 })
    let t2 := after (.wrV2Control 0x01#8) State.reset
    let t3 := after (.wrV3Control 0x00#8) (withOsc3 { Osc.atReset with lfsr := 0, test := true })
    t1.voice1.osc.acc = 0 ∧ t1.voice1.osc.lfsr = 0 ∧ t1.voice1.env.envState = .attack
      ∧ t2.voice2.env.envState = .attack ∧ t2.voice2.env.rateCounter = 1#15
      ∧ t3.voice3.osc.lfsr = 0x7FFFF8#23 ∧ t3.voice3.osc.test = false := by decide

/-- 2.2. -/
theorem test_wr_attack_decay :
    let e1 := (after (.wrV1AttackDecay 0xA5#8) State.reset).voice1.env
    let e2 := (after (.wrV2AttackDecay 0xA5#8) State.reset).voice2.env
    let e3 := (after (.wrV3AttackDecay 0xA5#8) State.reset).voice3.env
    e1.attack = 10#4 ∧ e1.decay = 5#4 ∧ e2 = e1 ∧ e3 = e1 := by decide

/-- 2.2. -/
theorem test_wr_sustain_release :
    let e1 := (after (.wrV1SustainRelease 0x3C#8) State.reset).voice1.env
    let e2 := (after (.wrV2SustainRelease 0x3C#8) State.reset).voice2.env
    let e3 := (after (.wrV3SustainRelease 0x3C#8) State.reset).voice3.env
    e1.sustain = 3#4 ∧ e1.release = 12#4 ∧ e2 = e1 ∧ e3 = e1 := by decide

/-- 2.2. -/
theorem test_wr_fc_lo : (after (.wrFcLo 0xFF#8) bypassed).filter.fc = 0x007#11 := by decide

/-- 2.2. -/
theorem test_wr_fc_hi :
    (after (.wrFcHi 0x80#8) { bypassed with filter := { Filter.atReset with fc := 0x007#11 } }).filter.fc = 0x407#11 := by
  decide

/-- 2.2. -/
theorem test_wr_res_filt :
    (after (.wrResFilt 0xA9#8) bypassed).filter = { Filter.atReset with res := 10#4, filt := 0b1001#4 } := by decide

/-- 2.2. -/
theorem test_wr_mode_vol :
    (after (.wrModeVol 0xD7#8) bypassed).filter =
      { Filter.atReset with voice3off := true, hp := true, bp := false, lp := true, vol := 7#4 } := by decide

/-- 2.10, and R178 for each of the seven addresses: the byte reaches the bus and nothing else. -/
theorem test_wr_ignored :
    (([Instr.wrPotx 0x55#8, .wrPoty 0x55#8, .wrOsc3 0x55#8, .wrEnv3 0x55#8, .wrUnused1D 0x55#8, .wrUnused1E 0x55#8]
        ++ [Instr.wrUnused1F 0x55#8]).map fun i => after i bypassed) =
      List.replicate 7 { after .idle bypassed with busValue := 0x55#8 } := by decide

/-- 2.10. -/
theorem test_rd_pot :
    (after .rdPotx State.reset).dataOut = some 0xFF#8 ∧ (after .rdPoty State.reset).dataOut = some 0xFF#8
      ∧ (after .rdPotx busy).dataOut = some 0x12#8 ∧ (after .rdPoty busy).dataOut = some 0x34#8 := by decide

/-- P1, cycle 259, and P4, cycle 17. -/
theorem test_rd_osc3 :
    (after .rdOsc3 (withOsc3 { Osc.atReset with freq := 0x1000#16, waveform := 2#4, acc := 0x101000#24 })).dataOut
        = some 0x10#8
      ∧ (after .rdOsc3 (withOsc3 { Osc.atReset with freq := 0x8000#16, waveform := 8#4, acc := 0x078000#24 })).dataOut
        = some 0xFE#8 := by decide

/-- P2, cycle 2298: the read follows the TICK, which here completes the attack. -/
theorem test_rd_env3 :
    (after .rdEnv3 (withEnv3
      { Env.atReset with envelopeCounter := 0xFE#8, rateCounter := 8#15, envState := .attack, gate := true })).dataOut
        = some 0xFF#8 := by decide

/-- P5, cycle 108, and R177 for each of the other addresses. -/
theorem test_rd_bus_voices :
    (([Instr.rdV1FreqLo, .rdV1FreqHi, .rdV1PwLo, .rdV1PwHi, .rdV1Control, .rdV1AttackDecay, .rdV1SustainRelease]
        ++ [Instr.rdV2FreqLo, .rdV2FreqHi, .rdV2PwLo, .rdV2PwHi, .rdV2Control, .rdV2AttackDecay, .rdV2SustainRelease]
        ++ [Instr.rdV3FreqLo, .rdV3FreqHi, .rdV3PwLo, .rdV3PwHi, .rdV3Control, .rdV3AttackDecay, .rdV3SustainRelease]).map
      fun i => (after i busy).dataOut) = List.replicate 21 (some 0x21#8) := by decide

/-- 2.10. -/
theorem test_rd_bus_others :
    ([Instr.rdFcLo, .rdFcHi, .rdResFilt, .rdModeVol, .rdUnused1D, .rdUnused1E, .rdUnused1F].map
      fun i => (after i busy).dataOut) = List.replicate 7 (some 0x21#8) := by decide

/-! ## The units on the spec's numbers -/

/-- V-LFSR-1's last three values. -/
theorem test_lfsr : lfsrStep 0x600007#23 = 0x40000F#23 ∧ lfsrStep 0x40000F#23 = 0x00001F#23 := by decide

/-- V-ENV-4. -/
theorem test_exp_segment :
    [0x00#8, 0x06#8, 0x07#8, 0x0E#8, 0x0F#8, 0x1A#8, 0x1B#8, 0x36#8, 0x37#8, 0x5D#8, 0x5E#8, 0xFF#8].map expSegment
      = [5, 5, 4, 4, 3, 3, 2, 2, 1, 1, 0, 0] := by decide

/-- V-ENV-3: the step 94 to 93 takes one rate period. -/
theorem test_release_step :
    let e := envTick { Env.atReset with envelopeCounter := 94#8, rateCounter := 8#15 }
    e.envelopeCounter = 93#8 ∧ e.rateCounter = 0 ∧ e.expCounter = 0 := by decide

/-- V-ENV-6: at 0xFF in ATTACK one TICK ends the attack. -/
theorem test_attack_at_full_level :
    (envTick { Env.atReset with envelopeCounter := 0xFF#8, gate := true, envState := .attack }).envState
      = .decaySustain := by decide

/-- V-FILT-1, the first row's first two results, and the third row. -/
theorem test_filter_step :
    filterStep 41197 1448 100000 Filter.atReset = { Filter.atReset with vhp := -100000, vbp := 3929, vlp := -154 }
      ∧ filterStep 41197 1448 100000 { Filter.atReset with vhp := -100000, vbp := 3929, vlp := -154 }
        = { Filter.atReset with vhp := -94291, vbp := 7634, vlp := -453 }
      ∧ filterStep 82355 599 1 { Filter.atReset with vhp := -5, vbp := 7, vlp := -3 }
        = { Filter.atReset with vhp := 6, vbp := 7, vlp := -3 } := by decide

/-- S6, steps 1 and 2, and the negative input's step 1. -/
theorem test_ext_step :
    extStep 0x4000 ExtFilter.atReset = { vlpExt := 3193344, vhpExt := 0 }
      ∧ extStep 0x4000 { vlpExt := 3193344, vhpExt := 0 } = { vlpExt := 6082780, vhpExt := 319 }
      ∧ extOut { vlpExt := 6082780, vhpExt := 319 } = 2969
      ∧ extStep (-0x4000) ExtFilter.atReset = { vlpExt := -3193344, vhpExt := 0 }
      ∧ extOut { vlpExt := -3193344, vhpExt := 0 } = -1560 := by decide

/-- S5 as a state: voice 1 at −22528 through the unfiltered path, volume 15. -/
def s5 : State :=
  { bypassed with
    voice1 :=
      { osc := { Osc.atReset with freq := 0x1000#16, pw := 0x800#12, waveform := 4#4, acc := 0x064000#24 }
        env := { Env.atReset with sustain := 15#4, gate := true, envelopeCounter := 11#8, envState := .attack } }
    filter := { Filter.atReset with vol := 15#4 } }

theorem test_output_chain :
    voiceSample (defaultTables Config.tables) s5 .v1 = -22528
      ∧ internalOut (defaultTables Config.tables) s5 = -337920 ∧ audioOut (defaultTables Config.tables) s5 = 330 := by
  decide

/-- 00_scope.md R8 and the conventions of 95_test_vectors.md. -/
theorem test_default_tables :
    let t := defaultTables Config.tables
    [0#11, 1#11, 256#11, 1024#11, 2047#11].map (cutoffDac t .mos6581) = [0, 40, 10299, 41197, 82355]
      ∧ [0#4, 1#4, 2#4, 7#4, 8#4, 15#4].map (resonanceTable t .mos6581) = [1448, 1323, 1218, 872, 825, 599] := by decide

/-- The interface: the word set runs in the very next step. -/
theorem test_with_fetch_word :
    step (bypassed.withFetchWord 16 0x581F) = exec (.wrModeVol 0x1F#8) bypassed
      ∧ (after (.wrModeVol 0x1F#8) bypassed).filter.vol = 15#4 := ⟨rfl, by decide⟩

/-! ## Witnesses: the cycle word -/

theorem witness_StepRunsTheWordOnThePins :
    (State.reset.withFetchWord 16 0x581F).pending = { word := 0x581F#16, inputs := Inputs.atDefault } :: []
      ∧ State.reset.pending = [] := by decide

theorem witness_DecodeInvertsEncode : (Instr.wrModeVol 0xFF#8).wf = true ∧ Instr.rdUnused1F.wf = true := by decide

/-- A word for each case of the statement. -/
theorem witness_EncodeOfDecodeIsCanonical :
    encode (decode 0x8123#16) = 0x8000#16 ∧ encode (decode 0x3FFF#16) = 0x0000#16
      ∧ encode (decode 0x7BFF#16) = 0x7B00#16 ∧ encode (decode 0x5F55#16) = 0x5F55#16 := by decide

theorem witness_NoiseSequencePeriod : 0 < 8388606 ∧ 8388606 < 8388607 := by decide

/-! ## Witnesses: waveform generator -/

theorem witness_AccumulatePhaseWithTestClear :
    let o : Osc := { Osc.atReset with acc := 0xFFF000#24, freq := 0x2000#16 }
    o.test = false ∧ o.acc = 0xFFF000#24 ∧ o.freq = 0x2000#16 ∧ Osc.atReset.test = false ∧ Osc.atReset.freq = 0 := by
  decide

/-- Both values of each condition in the statement: a synced voice with its source rising, and one not synced; a voice
whose bit 19 rises, and one under TEST. -/
theorem witness_OscillatorTick :
    let o : Osc := { Osc.atReset with sync := true, acc := 0x07F000#24, freq := 0x1000#16 }
    let q : Osc := { Osc.atReset with acc := 0x7FE000#24, freq := 0x2000#16 }
    o.sync = true ∧ q.test = false ∧ q.acc.toNat < 2 ^ 23 ∧ 2 ^ 23 ≤ q.acc.toNat + q.freq.toNat
      ∧ o.acc.toNat / 2 ^ 19 % 2 = 0 ∧ (o.acc.toNat + o.freq.toNat) % 2 ^ 24 / 2 ^ 19 % 2 = 1
      ∧ { Osc.atReset with test := true }.test = true := by decide

/-- V-LFSR-4's first case. -/
theorem witness_BulkAccumulation :
    let o : Osc := { Osc.atReset with acc := 0x07F000#24, freq := 0x1000#16 }
    o.test = false
      ∧ ((o.acc.toNat : Int) + 1 * o.freq.toNat - 2 ^ 19) / 2 ^ 20 - ((o.acc.toNat : Int) - 2 ^ 19) / 2 ^ 20 = 1 := by
  decide

/-- A state for each clause; the expected outputs are 2.5's. -/
theorem witness_SawtoothAndPulseOutputs :
    (((withOsc1 { Osc.atReset with waveform := 2#4, acc := 0xABCDEF#24 }).voice .v1).osc.waveform = 0b0010#4
        ∧ ((withOsc1 { Osc.atReset with waveform := 2#4, acc := 0xABCDEF#24 }).voice .v1).osc.acc = 0xABCDEF#24)
      ∧ (let o := ((withOsc1 { Osc.atReset with waveform := 4#4, acc := 0, pw := 0 }).voice .v1).osc;
        o.waveform = 0b0100#4 ∧ o.pw = 0 ∧ o.acc = 0)
      ∧ (let o := ((withOsc1 { Osc.atReset with waveform := 4#4, acc := 0xFFF000#24, pw := 0xFFF#12 }).voice .v1).osc;
        o.waveform = 0b0100#4 ∧ o.pw = 0xFFF#12 ∧ o.acc.toNat / 2 ^ 12 = 0xFFF)
      ∧ (let o := ((withOsc1 { Osc.atReset with waveform := 4#4, acc := 0x7FFFFF#24, pw := 0x800#12 }).voice .v1).osc;
        o.waveform = 0b0100#4 ∧ o.pw = 0x800#12 ∧ o.acc = 0x7FFFFF#24)
      ∧ (let o := ((withOsc1 { Osc.atReset with waveform := 4#4, acc := 0x800000#24, pw := 0x800#12 }).voice .v1).osc;
        o.waveform = 0b0100#4 ∧ o.pw = 0x800#12 ∧ o.acc = 0x800000#24) := by decide

/-- For each accumulator value, so for each of the statement's examples, a state without and a state with ring
modulation (voice 1's source is voice 3, its MSB at the boundary value set). -/
theorem witness_TriangleAndRingModulation (a : BitVec 24) :
    (let o := ((withOsc1 { Osc.atReset with waveform := 1#4, acc := a }).voice .v1).osc;
      o.waveform = 0b0001#4 ∧ o.ringMod = false ∧ o.acc = a)
    ∧ (let s : State :=
        { withOsc1 { Osc.atReset with waveform := 1#4, acc := a, ringMod := true } with
          voice3 := { Voice.atReset with osc := { Osc.atReset with acc := 0x800000#24 } } };
      (s.voice .v1).osc.waveform = 0b0001#4 ∧ (s.voice .v1).osc.ringMod = true
        ∧ (s.voice VoiceId.v1.src).osc.acc.toNat ≥ 2 ^ 23 ∧ (s.voice .v1).osc.acc = a)
    ∧ ((withOsc1 { Osc.atReset with waveform := 2#4, acc := a }).voice .v1).osc.waveform ≠ 0b0001#4 :=
  ⟨⟨rfl, rfl, rfl⟩, ⟨rfl, rfl, show 2 ^ 23 ≤ (0x800000#24).toNat by decide, rfl⟩, show 2#4 ≠ 0b0001#4 by decide⟩

/-- 2.5: the reset value of the noise register shows 0xFE0. -/
theorem witness_NoiseOutputTaps :
    (State.reset.voice .v1).osc.waveform = 0b0000#4
      ∧ ((withOsc1 { Osc.atReset with waveform := 8#4 }).voice .v1).osc.waveform = 0b1000#4
      ∧ waveOut Config.tables (withOsc1 { Osc.atReset with waveform := 8#4 }) .v1 = 0xFE0#12 := by decide

/-- V-CMB: a state for each of the four selectors, the comparator high at 0x123 and low at 0x124. -/
theorem witness_CombinedWaveformLookup :
    let o (w : BitVec 4) (pw : BitVec 12) :=
      ((withOsc1 { Osc.atReset with waveform := w, acc := 0x123456#24, pw := pw }).voice .v1).osc
    (o 3#4 0).waveform = 0b0011#4 ∧ (o 5#4 0).waveform = 0b0101#4 ∧ (o 6#4 0).waveform = 0b0110#4
      ∧ (o 7#4 0).waveform = 0b0111#4 ∧ (o 6#4 0x123#12).pw.toNat ≤ (o 6#4 0x123#12).acc.toNat / 2 ^ 12
      ∧ ¬(o 6#4 0x124#12).pw.toNat ≤ (o 6#4 0x124#12).acc.toNat / 2 ^ 12 := by decide

theorem witness_NoiseCombinationsAreSilent :
    9 ≤ ((withOsc1 { Osc.atReset with waveform := 9#4 }).voice .v1).osc.waveform.toNat
      ∧ 9 ≤ ((withOsc1 { Osc.atReset with waveform := 15#4 }).voice .v1).osc.waveform.toNat := by decide

/-- Two different states that agree on what R95 lists. -/
theorem witness_WaveOutDependsOnItsArguments :
    let s := State.reset
    let t := after (.wrV1FreqLo 0x55#8) s
    (t.voice .v1).osc.acc = (s.voice .v1).osc.acc ∧ (t.voice .v1).osc.lfsr = (s.voice .v1).osc.lfsr
      ∧ (t.voice .v1).osc.pw = (s.voice .v1).osc.pw ∧ (t.voice .v1).osc.waveform = (s.voice .v1).osc.waveform
      ∧ (t.voice .v1).osc.ringMod = (s.voice .v1).osc.ringMod
      ∧ (t.voice VoiceId.v1.src).osc.acc.getLsbD 23 = (s.voice VoiceId.v1.src).osc.acc.getLsbD 23
      ∧ t.straps.chipModel = s.straps.chipModel ∧ (t.voice .v1).osc.freq ≠ (s.voice .v1).osc.freq := by decide

/-! ## Witnesses: envelope generator -/

/-- On the compare point 8 of index 0, on either side of it, and at the counter's last value. -/
theorem witness_RateDividerTick :
    (8#15 : BitVec 15).toNat = ratePeriod 0#4 - 1 ∧ (9#15 : BitVec 15).toNat ≠ ratePeriod 0#4 - 1
      ∧ (7#15 : BitVec 15).toNat ≠ ratePeriod 0#4 - 1 ∧ (0x7FFF#15 : BitVec 15).toNat ≠ ratePeriod 15#4 - 1 := by decide

/-- A match in each state, with the sub-counter reaching the period and, at level 93 (segment 1), not reaching it. -/
theorem witness_EnvelopeTickOnRateMatch :
    (∀ st ∈ [EnvState.attack, .decaySustain, .release],
      let e : Env := { Env.atReset with envelopeCounter := 0xFE#8, rateCounter := 8#15, envState := st }
      e.rateCounter.toNat = ratePeriod (rateIndex e) - 1 ∧ (e.expCounter.toNat + 1) % 32 = 1)
    ∧ (let e : Env := { Env.atReset with envelopeCounter := 0x5D#8, rateCounter := 8#15 };
      e.rateCounter.toNat = ratePeriod (rateIndex e) - 1 ∧ (e.expCounter.toNat + 1) % 32 ≠ 2
        ∧ e.envelopeCounter.toNat ≤ 0x5D ∧ ¬e.envelopeCounter.toNat ≤ 0x36) := by decide

theorem witness_AttackEndsAtFullLevel :
    let e : Env := { Env.atReset with envelopeCounter := 0xFE#8, rateCounter := 8#15, gate := true, envState := .attack }
    e.envState = .attack ∧ ((tick Config.tables (withEnv3 e)).voice .v3).env.envelopeCounter.toNat = 0xFF := by decide

theorem witness_EnvelopeIsMonotone :
    Instr.idle ≠ .reset ∧ (∃ t, exec .idle State.reset = .next t) ∧ (State.reset.voice .v1).env.envState ≠ .attack
      ∧ (∃ t, exec .idle busy = .next t) ∧ (busy.voice .v1).env.envState = .attack :=
  ⟨by decide, ⟨_, rfl⟩, by decide, ⟨_, rfl⟩, by decide⟩

theorem witness_RateCounterIsOnlyTicked : Instr.wrV1Control 0x01#8 ≠ .reset := by decide

/-- S2′: the counter at 1000, past the compare point 8, and R124's numbers for it; and a counter before it. -/
theorem witness_AdsrDelayBug :
    (let e : Env := { Env.atReset with rateCounter := 1000#15, gate := true, envState := .attack };
      ¬(e.envState = .attack ∧ e.envelopeCounter.toNat = 0xFF)
        ∧ ¬e.rateCounter.toNat ≤ ratePeriod (rateIndex e) - 1
        ∧ 0x8000 - e.rateCounter.toNat + ratePeriod (rateIndex e) = 31777)
    ∧ (let e : Env := { Env.atReset with rateCounter := 8#15 };
      ¬(e.envState = .attack ∧ e.envelopeCounter.toNat = 0xFF) ∧ e.rateCounter.toNat ≤ ratePeriod (rateIndex e) - 1) := by
  decide

/-- At index 15 the time is R228's 7 969 260 TICKs. -/
theorem witness_FullAttackTime :
    let e := ((withEnv3 { Env.atReset with attack := 15#4, gate := true, envState := .attack }).voice .v3).env
    e.envState = .attack ∧ e.envelopeCounter = 0 ∧ e.rateCounter = 0 ∧ e.expCounter = 0
      ∧ 255 * ratePeriod e.attack = 7969260 := by decide

/-- At index 0 the time is R228's 6804 TICKs. -/
theorem witness_FullReleaseTime :
    let e := ((withEnv3 { Env.atReset with envelopeCounter := 0xFF#8 }).voice .v3).env
    e.envState = .release ∧ e.envelopeCounter = 0xFF#8 ∧ e.rateCounter = 0 ∧ e.expCounter = 0
      ∧ 756 * ratePeriod e.release = 6804 := by decide

/-- Each of the four transitions happens in some operation. -/
theorem witness_AdsrTransitions :
    let up := withEnv3 { Env.atReset with envelopeCounter := 0xFE#8, rateCounter := 8#15, gate := true, envState := .attack }
    ((after (.wrV3Control 0x01#8) State.reset).voice .v3).env.envState ≠ (State.reset.voice .v3).env.envState
      ∧ ((after .idle up).voice .v3).env.envState ≠ (up.voice .v3).env.envState
      ∧ ((after (.wrV3Control 0x00#8) up).voice .v3).env.envState ≠ (up.voice .v3).env.envState
      ∧ ((after .reset up).voice .v3).env.envState ≠ (up.voice .v3).env.envState
      ∧ ((after .reset up).voice .v3).env.gate ≠ (up.voice .v3).env.gate := by decide

/-! ## Witnesses: register writes and reads -/

theorem witness_FrequencyAndPulseWidthRegisters :
    0 < 4 ∧ 3 < 4
      ∧ (withOsc1 { Osc.atReset with freq := 0x1234#16 }).voice1.osc.freq = 0x1234#16
      ∧ State.reset.voice1.osc.freq = 0
      ∧ { State.reset with voice2 := { Voice.atReset with osc := { Osc.atReset with pw := 0x800#12 } } }.voice2.osc.pw
        = 0x800#12
      ∧ { State.reset with voice2 := { Voice.atReset with osc := { Osc.atReset with pw := 0x034#12 } } }.voice2.osc.pw
        = 0x034#12 := by decide

/-- Each TEST clause and each gate clause: set, cleared, rewritten the same, for both values of the bit. -/
theorem witness_ControlWrites :
    let u := tick Config.tables State.reset
    let v := tick Config.tables
      { withOsc3 { Osc.atReset with test := true } with
        voice3 := { osc := { Osc.atReset with test := true }, env := { Env.atReset with gate := true } } }
    ((u.voice .v3).osc.test = false ∧ (0x08#8 : Byte).getLsbD 3 = true)
      ∧ ((v.voice .v3).osc.test = true ∧ (0x00#8 : Byte).getLsbD 3 = false)
      ∧ (u.voice .v3).osc.test = (0xF7#8 : Byte).getLsbD 3 ∧ (v.voice .v3).osc.test = (0x08#8 : Byte).getLsbD 3
      ∧ ((u.voice .v3).env.gate = false ∧ (0x01#8 : Byte).getLsbD 0 = true)
      ∧ ((v.voice .v3).env.gate = true ∧ (0xFE#8 : Byte).getLsbD 0 = false)
      ∧ (u.voice .v3).env.gate = (0x00#8 : Byte).getLsbD 0 ∧ (v.voice .v3).env.gate = (0xFF#8 : Byte).getLsbD 0 := by
  decide

theorem witness_CutoffRegisters :
    (withFilter { Filter.atReset with fc := 0x400#11 }).filter.fc = 0x400#11 ∧ State.reset.filter.fc = 0 := by decide

theorem witness_FrequencyPairTears :
    (State.reset.voice .v3).osc.test = false ∧ (State.reset.voice .v3).osc.sync = false := by decide

theorem witness_PulseWidthAndCutoffPairsTear : State.reset.straps.filterEn = true := by decide

theorem witness_IgnoredWrites :
    Instr.wrUnused1F 0x55#8 ∈
      [Instr.wrPotx 0x55#8, .wrPoty 0x55#8, .wrOsc3 0x55#8, .wrEnv3 0x55#8, .wrUnused1D 0x55#8, .wrUnused1E 0x55#8,
        .wrUnused1F 0x55#8] := by decide

theorem witness_OtherReadsReturnBusValue :
    Instr.rdModeVol ∈
      [Instr.rdV1FreqLo, .rdV1FreqHi, .rdV1PwLo, .rdV1PwHi, .rdV1Control, .rdV1AttackDecay, .rdV1SustainRelease]
        ++ [Instr.rdV2FreqLo, .rdV2FreqHi, .rdV2PwLo, .rdV2PwHi, .rdV2Control, .rdV2AttackDecay, .rdV2SustainRelease]
        ++ [Instr.rdV3FreqLo, .rdV3FreqHi, .rdV3PwLo, .rdV3PwHi, .rdV3Control, .rdV3AttackDecay, .rdV3SustainRelease]
        ++ [Instr.rdFcLo, .rdFcHi, .rdResFilt, .rdModeVol, .rdUnused1D, .rdUnused1E, .rdUnused1F] := by decide

/-- An operation for each case of the statement. -/
theorem witness_BusValueIsTheLastByteWritten :
    ((∃ t, exec .reset busy = .next t) ∧ (encode .reset).getLsbD 15 = true)
      ∧ ((∃ t, exec (.wrModeVol 0x1F#8) busy = .next t) ∧ (encode (.wrModeVol 0x1F#8)).getLsbD 14 = true
        ∧ (encode (.wrModeVol 0x1F#8)).getLsbD 13 = false)
      ∧ ((∃ t, exec .rdV1FreqLo busy = .next t) ∧ (encode .rdV1FreqLo).getLsbD 13 = true)
      ∧ (∃ t, exec .idle busy = .next t) ∧ (encode .idle).getLsbD 14 = false :=
  ⟨⟨⟨_, rfl⟩, by decide⟩, ⟨⟨_, rfl⟩, by decide, by decide⟩, ⟨⟨_, rfl⟩, by decide⟩, ⟨_, rfl⟩, by decide⟩

/-! ## Witnesses: filter and output -/

theorem witness_FilterRouting : bypassed.straps.filterEn = false ∧ State.reset.straps.filterEn = true := by decide

theorem witness_FilterTick : State.reset.straps.filterEn = true := by decide

theorem witness_ExternalFilterTick : State.reset.straps.extfiltEn = true := by decide

theorem witness_BypassFreezesTheFilters : bypassed.straps.filterEn = false ∧ bypassed.straps.extfiltEn = false := by decide

/-- P5's end state, the voice silent; and S6's first step. -/
theorem witness_InternalAndExternalOutputs :
    (let s := withFilter { Filter.atReset with lp := true, vol := 15#4, vhp := 915, vbp := -5603, vlp := 14784 };
      s.straps.extfiltEn = true ∧ filterTaps s = 14784 ∧ filterBypass (defaultTables Config.tables) s = 0 ∧ s.filter.vol = 15#4)
    ∧ (let x : ExtFilter := { vlpExt := 3193344, vhpExt := 0 };
      x.vlpExt = 3193344 ∧ x.vhpExt = 0)
    ∧ (let s := State.reset;
      let t : State := { s with busValue := 0x55#8, ext := { vlpExt := 1, vhpExt := 2 } };
      (t.voice .v1 = s.voice .v1 ∧ t.voice .v2 = s.voice .v2 ∧ t.voice .v3 = s.voice .v3) ∧ t.filter = s.filter
        ∧ t.straps = s.straps ∧ t.inputs.extIn = s.inputs.extIn ∧ t ≠ s) := by decide

theorem witness_ModeMixer :
    State.reset.straps.filterEn = true ∧ bypassed.straps.filterEn = false := by decide

theorem witness_AudioOutIsSixteenBits :
    (State.reset.straps.extfiltEn = true ∧ -32768 ≤ extOut State.reset.ext ∧ extOut State.reset.ext ≤ 32767)
      ∧ (s5.straps.extfiltEn = false ∧ -32768 ≤ scaledOut (defaultTables Config.tables) s5
        ∧ scaledOut (defaultTables Config.tables) s5 ≤ 32767) := by decide

/-- Both ends of the range and both sides of it; 2.9's `output(8)` and `output(1)` are the last two. -/
theorem witness_OutputBitsFitsItsWidth :
    (1 ≤ 1 ∧ 1 ≤ 16) ∧ (1 ≤ 16 ∧ 16 ≤ 16) ∧ ¬(1 ≤ 0 ∧ 0 ≤ 16) ∧ ¬(1 ≤ 17 ∧ 17 ≤ 16)
      ∧ floorShift (-4458) (16 - 8) = -18 ∧ floorShift (-4458) (16 - 1) = -1 := by decide

theorem witness_VoiceSampleRange :
    ({ State.reset with straps := { Straps.atDefault with mute2 := true } }).straps.mute .v2 = true
      ∧ (State.reset.straps.mute .v2 = false ∧ State.reset.straps.chipModel = .mos8580)
      ∧ ((setChipModel .mos6581 State.reset).straps.mute .v2 = false
        ∧ (setChipModel .mos6581 State.reset).straps.chipModel = .mos6581) := by decide

/-! ## Witnesses: whole-machine rules -/

theorem witness_NoOperationChangesAStrap : ∃ t, exec (.wrModeVol 0x1F#8) busy = .next t := ⟨_, rfl⟩

theorem witness_EveryStepKeepsTheInvariant :
    State.reset.Inv ∧ busy.Inv ∧ (∃ t, step State.reset = .next t)
      ∧ ∃ t, step (busy.withFetchWord 16 0x4408) = .next t :=
  ⟨by decide, by decide, ⟨_, rfl⟩, ⟨_, rfl⟩⟩

end Sys2Proof.Tests
end

section
/-! Proofs of the scope family (00_scope.md): what `wave_out` reads (R8, R95), and what lies outside every operation
(R9, R213). -/

namespace Sys2Proof.Machine

/-! ## The fields each waveform reads (R97 to R102) -/

section
variable {o p : Osc}

theorem triangleOut_congr (hacc : p.acc = o.acc) (hring : p.ringMod = o.ringMod) (srcMsb : Bool) :
    triangleOut p srcMsb = triangleOut o srcMsb := by
  simp only [triangleOut, hacc, hring]

theorem sawtoothOut_congr (hacc : p.acc = o.acc) : sawtoothOut p = sawtoothOut o := by
  simp only [sawtoothOut, hacc]

theorem pulseOut_congr (hacc : p.acc = o.acc) (hpw : p.pw = o.pw) : pulseOut p = pulseOut o := by
  have hhigh : pulseHigh p = pulseHigh o := by simp only [pulseHigh, hacc, hpw]
  rw [pulseOut, pulseOut, hhigh]

theorem noiseOut_congr (hlfsr : p.lfsr = o.lfsr) : noiseOut p = noiseOut o := by
  simp only [noiseOut, hlfsr]

/-- A generator's output reads `freq`, `test`, `sync` and `msb_rising` in none of the sixteen waveforms. -/
theorem oscOut_congr (hacc : p.acc = o.acc) (hlfsr : p.lfsr = o.lfsr) (hpw : p.pw = o.pw)
    (hwave : p.waveform = o.waveform) (hring : p.ringMod = o.ringMod) (T : Tables) (m : ChipModel) (srcMsb : Bool) :
    oscOut T m p srcMsb = oscOut T m o srcMsb := by
  simp only [oscOut, hwave, hacc, triangleOut_congr hacc hring, sawtoothOut_congr hacc, pulseOut_congr hacc hpw,
    noiseOut_congr hlfsr]

end

/-- Settles O23: the source voice and the chip model enter as arguments of `oscOut`, the voice's own fields by
`oscOut_congr`. -/
theorem waveOutDependsOnItsArguments : Obligations.WaveOutDependsOnItsArguments := by
  intro T s t k hacc hlfsr hpw hwave hring hsrc hmodel
  unfold waveOut
  rw [hsrc, hmodel]
  exact oscOut_congr hacc hlfsr hpw hwave hring T _ _

/-! ## What lies outside every operation -/

/-- Settles O56, by the kind of operation: RESET carries the three fields over, every other cycle leaves them to the
TICK and, in a write, to the register's rule, and neither touches them. -/
theorem noOperationChangesAStrap : Obligations.NoOperationChangesAStrap := by
  intro i s t h
  rcases exec_inversion h with ⟨-, rfl⟩ | ⟨-, rfl⟩ | ⟨r, d, -, rfl⟩ | ⟨r, -, rfl⟩
  · exact ⟨rfl, rfl, rfl⟩
  · exact ⟨tick_straps _ s, tick_inputs _ s, tick_pending _ s⟩
  · obtain ⟨hstraps, hinputs, hpending, -, -⟩ := writeReg_outside r d (tick Config.tables s)
    exact ⟨hstraps.trans (tick_straps _ s), hinputs.trans (tick_inputs _ s), hpending.trans (tick_pending _ s)⟩
  · exact ⟨tick_straps _ s, tick_inputs _ s, tick_pending _ s⟩

end Sys2Proof.Machine
end

section
/-! Proofs of the state family (10_state.md): RESET's values (R34, R213), the last byte written (R27), the counters of
an envelope (R20, R21) and the invariants every step keeps (R32, R33). -/

namespace Sys2Proof.Machine

/-! ## What an operation leaves of a voice -/

/-- Every operation completes (R189). -/
theorem exec_next (i : Instr) (s : State) : ∃ t, exec i s = .next t := by
  rcases instr_cases i with rfl | rfl | ⟨r, d, rfl⟩ | ⟨r, rfl⟩
  · exact ⟨_, exec_reset s⟩
  · exact ⟨_, exec_idle s⟩
  · exact ⟨_, exec_decodeWr r d s⟩
  · exact ⟨_, exec_decodeRd r s⟩

@[simp] theorem resetCycle_voice (s : State) (k : VoiceId) : (resetCycle s).voice k = Voice.atReset := by
  cases k <;> rfl

/-- `w` agrees with `v` on what only a TICK or a CONTROL write changes: the accumulator, the noise register, TEST, the
gate, the ADSR state and the three counters. -/
structure Voice.SameCore (v w : Voice) : Prop where
  acc : w.osc.acc = v.osc.acc
  lfsr : w.osc.lfsr = v.osc.lfsr
  test : w.osc.test = v.osc.test
  gate : w.env.gate = v.env.gate
  envState : w.env.envState = v.env.envState
  envelopeCounter : w.env.envelopeCounter = v.env.envelopeCounter
  rateCounter : w.env.rateCounter = v.env.rateCounter
  expCounter : w.env.expCounter = v.env.expCounter

theorem Voice.SameCore.refl (v : Voice) : v.SameCore v := ⟨rfl, rfl, rfl, rfl, rfl, rfl, rfl, rfl⟩

theorem Voice.SameCore.of_eq {v w : Voice} (h : w = v) : v.SameCore w := h ▸ .refl v

/-- A voice after a CONTROL write (R85). -/
def Voice.control (d : Byte) (v : Voice) : Voice := { osc := oscControl d v.osc, env := envControl d v.env }

theorem writeControl_voice_self (k : VoiceId) (d : Byte) (s : State) :
    (writeControl k d s).voice k = (s.voice k).control d := by
  simp [writeControl, Voice.control]

theorem writeControl_voice_of_ne {j k : VoiceId} (h : j ≠ k) (d : Byte) (s : State) :
    (writeControl k d s).voice j = s.voice j := by
  simp [writeControl, h]

/-- A register write leaves the core of each voice, or is the CONTROL write of that voice. -/
theorem writeReg_voice_cases (r : Reg) (d : Byte) (s : State) (j : VoiceId) :
    (s.voice j).SameCore ((writeReg r.addr d s).voice j) ∨ (writeReg r.addr d s).voice j = (s.voice j).control d := by
  rcases writeReg_cases r d s with ⟨k, f, h, hf⟩ | ⟨k, h, -⟩ | ⟨k, g, h, hg⟩ | ⟨f, h, -⟩ | h <;> rw [h]
  case inl =>
    by_cases hjk : j = k
    · subst hjk
      obtain ⟨hacc, hlfsr, -, htest⟩ := hf (s.voice j).osc
      left
      rw [State.updOsc_voice_self, State.voice_update]
      exact ⟨hacc, hlfsr, htest, rfl, rfl, rfl, rfl, rfl⟩
    · exact .inl (.of_eq (by simp [hjk]))
  case inr.inl =>
    by_cases hjk : j = k
    · subst hjk
      right
      rw [writeControl_voice_self, State.voice_update]
    · exact .inl (.of_eq (by rw [writeControl_voice_of_ne hjk, State.voice_update]))
  case inr.inr.inl =>
    by_cases hjk : j = k
    · subst hjk
      obtain ⟨hgate, hstate, hrate, hexp, henvelope⟩ := hg (s.voice j).env
      left
      rw [State.updEnv_voice_self, State.voice_update]
      exact ⟨rfl, rfl, rfl, hgate, hstate, henvelope, hrate, hexp⟩
    · exact .inl (.of_eq (by simp [hjk]))
  case inr.inr.inr.inl => exact .inl (.of_eq (State.voice_update ..))
  case inr.inr.inr.inr => exact .inl (.of_eq (State.voice_update ..))

/-- Outside RESET an operation leaves the core of each voice as the TICK made it, or is the CONTROL write of that
voice (D4). -/
theorem exec_voice_cases {i : Instr} {s t : State} (hi : i ≠ .reset) (h : exec i s = .next t) (k : VoiceId) :
    ((tick Config.tables s).voice k).SameCore (t.voice k)
    ∨ ∃ d, t.voice k = ((tick Config.tables s).voice k).control d := by
  rcases exec_inversion h with ⟨rfl, -⟩ | ⟨-, rfl⟩ | ⟨r, d, -, rfl⟩ | ⟨r, -, rfl⟩
  · exact absurd rfl hi
  · exact .inl (.of_eq (State.voice_update ..))
  · rw [State.voice_update]
    exact (writeReg_voice_cases r d (tick Config.tables s) k).imp_right fun h => ⟨d, h⟩
  · exact .inl (.of_eq (State.voice_update ..))

/-! ## The counters of an envelope -/

/-- A CONTROL write leaves an envelope as it was, or clears its sub-counter and sets the state its new gate asks for;
the envelope counter and the rate counter keep their values (R114, R115, R116). -/
theorem envControl_cases (d : Byte) (e : Env) :
    envControl d e = e
    ∨ envControl d e = { e with gate := true, envState := .attack, expCounter := 0 }
    ∨ envControl d e = { e with gate := false, envState := .release, expCounter := 0 } := by
  unfold envControl
  split
  · exact .inr (.inl rfl)
  · split
    · exact .inr (.inr rfl)
    · exact .inl rfl

@[simp] theorem envControl_envelopeCounter (d : Byte) (e : Env) :
    (envControl d e).envelopeCounter = e.envelopeCounter := by
  rcases envControl_cases d e with h | h | h <;> rw [h]

@[simp] theorem envControl_rateCounter (d : Byte) (e : Env) : (envControl d e).rateCounter = e.rateCounter := by
  rcases envControl_cases d e with h | h | h <;> rw [h]

theorem exec_rateCounter {i : Instr} {s t : State} (hi : i ≠ .reset) (h : exec i s = .next t) (k : VoiceId) :
    (t.voice k).env.rateCounter = ((tick Config.tables s).voice k).env.rateCounter := by
  rcases exec_voice_cases hi h k with hcore | ⟨d, hcontrol⟩
  · exact hcore.rateCounter
  · rw [hcontrol]
    exact envControl_rateCounter d _

theorem exec_envelopeCounter {i : Instr} {s t : State} (hi : i ≠ .reset) (h : exec i s = .next t) (k : VoiceId) :
    (t.voice k).env.envelopeCounter = (envTick (s.voice k).env).envelopeCounter := by
  have htick : ((tick Config.tables s).voice k).env = envTick (s.voice k).env := by rw [tick_voice]
  rw [← htick]
  rcases exec_voice_cases hi h k with hcore | ⟨d, hcontrol⟩
  · exact hcore.envelopeCounter
  · rw [hcontrol]
    exact envControl_envelopeCounter d _

/-- The envelope counter may move from where `e` has it to `c`: by at most one, never down in ATTACK, never up
elsewhere (R20). -/
def Env.MovesTo (e : Env) (c : Byte) : Prop :=
  c.toNat ≤ e.envelopeCounter.toNat + 1 ∧ e.envelopeCounter.toNat ≤ c.toNat + 1
    ∧ (e.envState = .attack → e.envelopeCounter.toNat ≤ c.toNat)
    ∧ (e.envState ≠ .attack → c.toNat ≤ e.envelopeCounter.toNat)

theorem Env.movesTo_self (e : Env) : e.MovesTo e.envelopeCounter := by
  unfold Env.MovesTo
  omega

theorem Env.movesTo_envelopeStep (e : Env) : e.MovesTo (envelopeStep e).envelopeCounter := by
  have hlt := e.envelopeCounter.isLt
  unfold Env.MovesTo
  rw [envelopeStep_toNat]
  cases e.envState <;> dsimp only
  case attack => exact ⟨by omega, by omega, fun _ => by omega, fun hstate => absurd rfl hstate⟩
  case decaySustain =>
    split <;> exact ⟨by omega, by omega, fun hstate => EnvState.noConfusion hstate, fun _ => by omega⟩
  case release => exact ⟨by omega, by omega, fun hstate => EnvState.noConfusion hstate, fun _ => by omega⟩

/-- In a TICK the envelope counter stays, or takes one envelope step. -/
theorem Env.movesTo_envTick (e : Env) : e.MovesTo (envTick e).envelopeCounter := by
  rw [envTick_envelopeCounter]
  rcases rateStep_cases e with ⟨-, h⟩ | ⟨-, -, h⟩ | ⟨-, -, h⟩ <;> rw [h]
  · exact e.movesTo_self
  · exact e.movesTo_self
  · exact Env.movesTo_envelopeStep { e with rateCounter := 0, expCounter := 0 }

/-- Settles O28: outside RESET the envelope counter is what the TICK makes it. -/
theorem envelopeIsMonotone : Obligations.EnvelopeIsMonotone := by
  intro i s t k hi h
  rw [exec_envelopeCounter hi h k]
  exact (s.voice k).env.movesTo_envTick

/-- Settles O29: no CONTROL write and no other register write reaches a rate counter. -/
theorem rateCounterIsOnlyTicked : Obligations.RateCounterIsOnlyTicked := by
  intro i s hi
  obtain ⟨t, h⟩ := exec_next i s
  exact ⟨t, h, exec_rateCounter hi h⟩

/-! ## RESET -/

/-- Settles O7: RESET's next state is `resetCycle`, which reads nothing but the straps, the inputs and the list of
pending cycles, and carries those over. -/
theorem resetSetsEveryField : Obligations.ResetSetsEveryField := by
  intro s
  refine ⟨resetCycle s, exec_reset s, fun k => ?_, rfl, rfl, rfl, rfl, rfl, rfl, rfl, exec_reset (resetCycle s)⟩
  rw [resetCycle_voice]
  exact ⟨rfl, rfl⟩

/-! ## The last byte written -/

/-- The data byte of a WR word is its lower byte (R57). -/
theorem wrWord_setWidth (a : Addr) (d : Byte) : (wrWord a d).setWidth 8 = d :=
  BitVec.setWidth_append_eq_right

/-- The upper three bits of a WR word: RES = 0, CS = 1, RW = 0 (R57, R58). -/
theorem wrWord_fields (a : Addr) (d : Byte) :
    (wrWord a d).getLsbD 15 = false ∧ (wrWord a d).getLsbD 14 = true ∧ (wrWord a d).getLsbD 13 = false := by
  simp only [wrWord, BitVec.getLsbD_append]
  exact ⟨rfl, rfl, rfl⟩

/-- The upper three bits of a RD word: RES = 0, CS = 1, RW = 1 (R57, R58). -/
theorem rdWord_fields (a : Addr) :
    (rdWord a).getLsbD 15 = false ∧ (rdWord a).getLsbD 14 = true ∧ (rdWord a).getLsbD 13 = true := by
  simp only [rdWord, BitVec.getLsbD_append]
  exact ⟨rfl, rfl, rfl⟩

/-- Settles O44, by the kind of operation, whose RES, CS and RW bits the kind fixes. -/
theorem busValueIsTheLastByteWritten : Obligations.BusValueIsTheLastByteWritten := by
  intro i s t h
  rcases exec_inversion h with ⟨rfl, rfl⟩ | ⟨rfl, rfl⟩ | ⟨r, d, rfl, rfl⟩ | ⟨r, rfl, rfl⟩
  · rfl
  · exact tick_busValue Config.tables s
  · obtain ⟨hres, hcs, hrw⟩ := wrWord_fields r.addr d
    obtain ⟨-, -, -, -, hbus⟩ := writeReg_outside r d (tick Config.tables s)
    simp only [encode_decodeWr, hres, hcs, hrw, hbus, wrWord_setWidth, Bool.false_eq_true, and_self, reduceIte]
  · obtain ⟨hres, -, hrw⟩ := rdWord_fields r.addr
    simp only [encode_decodeRd, hres, hrw, tick_busValue, Bool.false_eq_true, Bool.true_eq_false, and_false, reduceIte]

/-! ## The invariant of a waveform generator (R32) -/

theorem Osc.atReset_inv : Osc.atReset.Inv := by decide

/-- The noise register is shifted into 0 from 0 only: the step puts bits 0 to 21 one place up and recovers bit 22 from
the feedback bit and bit 17 (R90). -/
theorem lfsrStep_ne_zero {l : BitVec 23} (h : l ≠ 0) : lfsrStep l ≠ 0 := by
  intro hstep
  have hlow (j : Nat) (hj : j < 22) : l.getLsbD j = false := by
    have hbit : j + 1 < 23 → l.getLsbD j = false := by
      simpa [lfsrStep] using congrArg (BitVec.getLsbD · (j + 1)) hstep
    exact hbit (by omega)
  have htop : l.getLsbD 22 = false := by
    have hfeedback : l.getLsbD 22 = l.getLsbD 17 := by
      simpa [lfsrStep] using congrArg (BitVec.getLsbD · 0) hstep
    exact hfeedback.trans (hlow 17 (by omega))
  refine h (BitVec.eq_of_getLsbD_eq (y := 0#23) fun j hj => ?_)
  rw [BitVec.getLsbD_zero]
  rcases Nat.lt_succ_iff_lt_or_eq.mp hj with hlt | rfl
  · exact hlow j hlt
  · exact htop

theorem phaseA_inv {o : Osc} (h : o.Inv) : (phaseA o).Inv := by
  obtain ⟨hcleared, hnonzero⟩ := h
  cases htest : o.test
  · rw [phaseA_of_not_test htest]
    refine ⟨fun hset => Bool.noConfusion (htest.symm.trans hset), fun _ => ?_⟩
    dsimp only
    split
    · exact lfsrStep_ne_zero (hnonzero htest)
    · exact hnonzero htest
  · rw [phaseA_of_test htest]
    exact ⟨hcleared, hnonzero⟩

theorem phaseB_inv {o : Osc} (b : Bool) (h : o.Inv) : (phaseB b o).Inv := by
  obtain ⟨hcleared, hnonzero⟩ := h
  unfold phaseB
  split
  · exact ⟨fun htest => ⟨rfl, (hcleared htest).2⟩, hnonzero⟩
  · exact ⟨hcleared, hnonzero⟩

/-- TEST set by the write clears both registers and TEST cleared by it loads the seed; a write that keeps TEST keeps
both (R86, R87). -/
theorem oscControl_inv {o : Osc} (d : Byte) (h : o.Inv) : (oscControl d o).Inv := by
  obtain ⟨hcleared, hnonzero⟩ := h
  refine ⟨fun (hnew : testBit d = true) => ?_, fun (hnew : testBit d = false) => ?_⟩
  · cases hold : o.test
    · simp [oscControl, rises, hold, hnew]
    · simpa [oscControl, rises, falls, hold, hnew] using hcleared hold
  · cases hold : o.test
    · simpa [oscControl, rises, falls, hold, hnew] using hnonzero hold
    · simp [oscControl, rises, falls, hold, hnew, lfsrSeed]

/-! ## The invariant of an envelope generator (R33) -/

theorem Env.atReset_inv : Env.atReset.Inv := by decide

theorem expPeriod_pos (x : Fin 6) : 0 < expPeriod x := by
  revert x
  decide

theorem expPeriod_le (x : Fin 6) : expPeriod x ≤ 30 := by
  revert x
  decide

/-- A sub-counter at 0 is below every period, so only the gate and the ADSR state are left to agree. -/
theorem Env.inv_of_expCounter_eq_zero {e : Env} (hrelease : e.gate = false → e.envState = .release)
    (hattack : e.envState = .attack → e.gate = true) (hzero : e.expCounter = 0) : e.Inv :=
  ⟨hrelease, fun h => ⟨hattack h, hzero⟩, by rw [hzero]; exact expPeriod_pos _⟩

/-- A sub-counter below its period that does not reach it in this step stays below it; in ATTACK it always reaches it,
the period there being 1 (R122). -/
theorem rateStep_inv {e : Env} (h : e.Inv) : (rateStep e).Inv := by
  obtain ⟨hrelease, hattack, hbelow⟩ := h
  rcases rateStep_cases e with ⟨-, hstep⟩ | ⟨-, hperiod, hstep⟩ | ⟨-, -, hstep⟩ <;> rw [hstep]
  · exact ⟨hrelease, hattack, hbelow⟩
  · have hsucc : (e.expCounter + 1).toNat = e.expCounter.toNat + 1 := by
      have := expPeriod_le (expIndex e)
      bv_omega
    refine ⟨hrelease, fun hstate => absurd ?_ hperiod, ?_⟩
    · obtain ⟨-, hzero⟩ := hattack hstate
      rw [hzero, expIndex, hstate]
      rfl
    · change (e.expCounter + 1).toNat < expPeriod (expIndex e)
      omega
  · rw [envelopeStep_eq]
    exact Env.inv_of_expCounter_eq_zero hrelease (fun hstate => (hattack hstate).1) rfl

theorem stateCheck_inv {e : Env} (h : e.Inv) : (stateCheck e).Inv := by
  obtain ⟨hrelease, hattack, hbelow⟩ := h
  rw [stateCheck_eq]
  by_cases hfull : e.envState = .attack ∧ e.envelopeCounter = 0xFF#8
  · obtain ⟨hgate, hzero⟩ := hattack hfull.1
    simp only [if_pos hfull]
    exact Env.inv_of_expCounter_eq_zero (fun hclear => Bool.noConfusion (hgate.symm.trans hclear))
      EnvState.noConfusion hzero
  · simp only [if_neg hfull]
    exact ⟨hrelease, hattack, hbelow⟩

theorem envTick_inv {e : Env} (h : e.Inv) : (envTick e).Inv := stateCheck_inv (rateStep_inv h)

theorem envControl_inv {e : Env} (d : Byte) (h : e.Inv) : (envControl d e).Inv := by
  rcases envControl_cases d e with heq | heq | heq <;> rw [heq]
  · exact h
  · exact Env.inv_of_expCounter_eq_zero (fun hclear => Bool.noConfusion hclear) (fun _ => rfl) rfl
  · exact Env.inv_of_expCounter_eq_zero (fun _ => rfl) (fun hstate => EnvState.noConfusion hstate) rfl

/-! ## The invariant of the machine -/

/-- R32 and R33 for one voice. -/
def Voice.Inv (v : Voice) : Prop := v.osc.Inv ∧ v.env.Inv

theorem State.inv_iff_voice (s : State) : s.Inv ↔ ∀ k, (s.voice k).Inv :=
  (VoiceId.forall_iff (P := fun k => (s.voice k).Inv)).symm

theorem Voice.atReset_inv : Voice.atReset.Inv := ⟨Osc.atReset_inv, Env.atReset_inv⟩

theorem Voice.control_inv {v : Voice} (d : Byte) (h : v.Inv) : (v.control d).Inv :=
  ⟨oscControl_inv d h.1, envControl_inv d h.2⟩

theorem tick_voice_inv {s : State} (h : s.Inv) (T : Tables) (k : VoiceId) : ((tick T s).voice k).Inv := by
  obtain ⟨hosc, henv⟩ := (State.inv_iff_voice s).mp h k
  rw [tick_voice]
  exact ⟨phaseB_inv _ (phaseA_inv hosc), envTick_inv henv⟩

/-- The invariants read the core of a voice only. -/
theorem Voice.SameCore.inv {v w : Voice} (h : v.SameCore w) (hv : v.Inv) : w.Inv := by
  have hindex : expIndex w.env = expIndex v.env := by rw [expIndex, expIndex, h.envState, h.envelopeCounter]
  obtain ⟨hosc, henv⟩ := hv
  refine ⟨?_, ?_⟩
  · rw [Osc.Inv, h.acc, h.lfsr, h.test]
    exact hosc
  · rw [Env.Inv, hindex, h.gate, h.envState, h.expCounter]
    exact henv

/-- Every operation keeps the invariants: RESET establishes them, the TICK of any other cycle keeps them, and so does
what the cycle does to a voice after it. -/
theorem exec_inv {i : Instr} {s t : State} (h : exec i s = .next t) (hs : s.Inv) : t.Inv := by
  rw [State.inv_iff_voice]
  intro k
  by_cases hi : i = .reset
  · subst hi
    rw [← Host.Outcome.next.inj h, resetCycle_voice]
    exact Voice.atReset_inv
  · have htick := tick_voice_inv hs Config.tables k
    rcases exec_voice_cases hi h k with hcore | ⟨d, hcontrol⟩
    · exact hcore.inv htick
    · rw [hcontrol]
      exact Voice.control_inv d htick

theorem State.sampled_inv {s : State} (h : s.Inv) : s.sampled.Inv := h

/-- Settles O58: the three voices after reset meet the invariants. -/
theorem invariantAtReset : Obligations.InvariantAtReset :=
  ⟨Voice.atReset_inv, Voice.atReset_inv, Voice.atReset_inv⟩

/-- Settles O59: a step samples the pins, which touches no voice, and performs one operation. -/
theorem everyStepKeepsTheInvariant : Obligations.EveryStepKeepsTheInvariant :=
  fun _ _ hs h => exec_inv h (State.sampled_inv hs)

end Sys2Proof.Machine
end

section
/-! Proofs of the memory family (20_memory.md): a bus cycle reaches the source's register write or read at the address
its word carries (R46, R47). -/

namespace Sys2Proof.Machine

/-! ## The fields of a word put together from its parts (R57) -/

section
variable (c : BitVec 3) (a : Addr) (d : Byte)

@[simp] theorem resField_append : resField (c ++ a ++ d) = c.getLsbD 2 :=
  BitVec.getLsbD_append.trans BitVec.getLsbD_append

@[simp] theorem csField_append : csField (c ++ a ++ d) = c.getLsbD 1 :=
  BitVec.getLsbD_append.trans BitVec.getLsbD_append

@[simp] theorem rwField_append : rwField (c ++ a ++ d) = c.getLsbD 0 :=
  BitVec.getLsbD_append.trans BitVec.getLsbD_append

@[simp] theorem addrField_append : addrField (c ++ a ++ d) = a := by
  rw [addrField, BitVec.extractLsb'_append_eq_of_le (by decide)]
  exact BitVec.extractLsb'_append_eq_right

@[simp] theorem dataField_append : dataField (c ++ a ++ d) = d := BitVec.extractLsb'_append_eq_right

end

/-! ## The two kinds of bus word (R58) -/

/-- A word with RES = 0, CS = 1 and RW = 0 is the write of its data byte at its address. -/
theorem decode_wr (a : Addr) (d : Byte) : decode (0b010#3 ++ a ++ d) = decodeWr (Reg.ofAddr a) d := by
  simp [decode]

/-- A word with RES = 0, CS = 1 and RW = 1 is the read at its address: the decoder does not look at its data byte. -/
theorem decode_rd (a : Addr) (d : Byte) : decode (0b011#3 ++ a ++ d) = decodeRd (Reg.ofAddr a) := by
  simp [decode]

/-- Settles O45: the word decodes to the write at the register of its address, and that register stands at that
address. -/
theorem writeWordIsTickThenWrite : Obligations.WriteWordIsTickThenWrite := by
  intro a d s
  rw [decode_wr, exec_decodeWr, Reg.addr_ofAddr]

/-- Settles O46: the word decodes to the read at the register of its address, whatever its data byte. -/
theorem readWordIsTickThenRead : Obligations.ReadWordIsTickThenRead := by
  intro a d s
  rw [decode_rd, exec_decodeRd, Reg.addr_ofAddr]

end Sys2Proof.Machine
end

section
/-! Proofs of the encoding family (30_encoding.md): the word a step performs (R57, R58) and the opcode table as a
partition of the cycle words (R78). -/

namespace Sys2Proof.Machine

/-! ## The pins of a step -/

/-- Settles O1, by the two cases of the pin sampling. -/
theorem stepRunsTheWordOnThePins : Obligations.StepRunsTheWordOnThePins := by
  intro s
  refine ⟨fun p rest hpending => ?_, fun hpending => ?_⟩
  · simp only [step, State.sampled, State.nextPins, hpending, List.tail_cons]
  · have hidle : decode CyclePins.atDefault.word = .idle := rfl
    simp only [step, State.sampled, State.nextPins, hpending, List.tail_nil, hidle]
    rfl

/-! ## A word as class, address and data byte (R57) -/

/-- RES, CS and RW, bits 15:13: what R58 tests. -/
def classField (w : CycleWord) : BitVec 3 := w.extractLsb' 13 3

@[simp] theorem classField_append (c : BitVec 3) (a : Addr) (d : Byte) : classField (c ++ a ++ d) = c := by
  rw [classField, BitVec.extractLsb'_append_eq_of_le (by decide)]
  exact BitVec.extractLsb'_append_eq_left

theorem fields_append (w : CycleWord) : classField w ++ addrField w ++ dataField w = w := by
  have hupper : classField w ++ addrField w = w.extractLsb' 8 8 :=
    BitVec.extractLsb'_append_extractLsb'_eq_extractLsb' rfl
  have hword : w.extractLsb' 8 8 ++ dataField w = w.extractLsb' 0 16 :=
    BitVec.extractLsb'_append_extractLsb'_eq_extractLsb' rfl
  rw [hupper, hword, BitVec.extractLsb'_eq_self]

theorem word_append_inj {c c' : BitVec 3} {a a' : Addr} {d d' : Byte} :
    c ++ a ++ d = c' ++ a' ++ d' ↔ c = c' ∧ a = a' ∧ d = d' := by
  refine ⟨fun h => ⟨?_, ?_, ?_⟩, by rintro ⟨rfl, rfl, rfl⟩; rfl⟩
  · simpa using congrArg classField h
  · simpa using congrArg addrField h
  · simpa using congrArg dataField h

/-- R58's order of tests: RES first, then CS, then RW; a class with RES set or CS clear is that of no bus word. -/
theorem class_cases (c : BitVec 3) :
    (c.getLsbD 2 = true ∧ c ≠ 0b010#3 ∧ c ≠ 0b011#3)
      ∨ (c.getLsbD 2 = false ∧ c.getLsbD 1 = false ∧ c ≠ 0b010#3 ∧ c ≠ 0b011#3)
      ∨ c = 0b010#3 ∨ c = 0b011#3 := by
  revert c
  decide

theorem decode_of_res {c : BitVec 3} (hres : c.getLsbD 2 = true) (a : Addr) (d : Byte) :
    decode (c ++ a ++ d) = .reset := by
  rw [decode, resField_append, hres, if_pos rfl]

theorem decode_of_not_cs {c : BitVec 3} (hres : c.getLsbD 2 = false) (hcs : c.getLsbD 1 = false) (a : Addr)
    (d : Byte) : decode (c ++ a ++ d) = .idle := by
  rw [decode, resField_append, csField_append, hres, hcs, if_neg Bool.false_ne_true, Bool.not_false, if_pos rfl]

/-! ## The opcode table by addresses (R61, R78) -/

/-- The 32 addresses in order. -/
def allAddrs : List Addr := List.ofFn BitVec.ofFin

/-- The row that matches the class and the address of a word; it leaves the data byte free. -/
def busRow (c : BitVec 3) (op : Addr → Instr) (a : Addr) : OpcodeRow :=
  ⟨(op a).mnemonic, 0b111#3 ++ 0b11111#5 ++ 0#8, c ++ a ++ 0#8⟩

/-- The RESET row matches RES alone. -/
def resetRow : OpcodeRow := ⟨"RESET", 0b100#3 ++ 0#5 ++ 0#8, 0b100#3 ++ 0#5 ++ 0#8⟩

/-- The IDLE row matches RES and CS. -/
def idleRow : OpcodeRow := ⟨"IDLE", 0b110#3 ++ 0#5 ++ 0#8, 0b000#3 ++ 0#5 ++ 0#8⟩

/-- The WR row of an address. -/
def wrRow : Addr → OpcodeRow := busRow 0b010#3 fun a => decodeWr (Reg.ofAddr a) 0

/-- The RD row of an address. -/
def rdRow : Addr → OpcodeRow := busRow 0b011#3 fun a => decodeRd (Reg.ofAddr a)

theorem opcodeTable_eq : opcodeTable = [resetRow, idleRow] ++ allAddrs.map wrRow ++ allAddrs.map rdRow := rfl

/-- The row of a write does not depend on its data byte. -/
theorem decodeWr_mnemonic (r : Reg) (d : Byte) : (decodeWr r d).mnemonic = (decodeWr r 0).mnemonic := by
  cases r <;> rfl

/-! ## Which rows cover a word -/

/-- A row whose mask leaves the data byte free tests the class and the address, each under its part of the mask. -/
theorem covers_append (m : String) (cm cp c : BitVec 3) (am ap a : Addr) (d : Byte) :
    (OpcodeRow.mk m (cm ++ am ++ 0#8) (cp ++ ap ++ 0#8)).covers (c ++ a ++ d) = (c &&& cm == cp && a &&& am == ap) := by
  rw [OpcodeRow.covers, BitVec.and_append, BitVec.and_append, BitVec.and_zero, Bool.eq_iff_iff, beq_iff_eq,
    word_append_inj, Bool.and_eq_true, beq_iff_eq, beq_iff_eq]
  exact and_congr_right' (and_iff_left rfl)

section
variable (c : BitVec 3) (a : Addr) (d : Byte)

theorem resetRow_covers : resetRow.covers (c ++ a ++ d) = c.getLsbD 2 := by
  have hclass : ∀ c : BitVec 3, (c &&& 0b100#3 == 0b100#3) = c.getLsbD 2 := by decide
  rw [resetRow, covers_append, hclass, BitVec.and_zero, beq_self_eq_true, Bool.and_true]

theorem idleRow_covers : idleRow.covers (c ++ a ++ d) = (!c.getLsbD 2 && !c.getLsbD 1) := by
  have hclass : ∀ c : BitVec 3, (c &&& 0b110#3 == 0b000#3) = (!c.getLsbD 2 && !c.getLsbD 1) := by decide
  rw [idleRow, covers_append, hclass, BitVec.and_zero, beq_self_eq_true, Bool.and_true]

theorem busRow_covers (c' : BitVec 3) (op : Addr → Instr) (b : Addr) :
    (busRow c' op b).covers (c ++ a ++ d) = (c == c' && a == b) := by
  have hclass : c &&& 0b111#3 = c := BitVec.and_allOnes
  have haddr : a &&& 0b11111#5 = a := BitVec.and_allOnes
  rw [busRow, covers_append, hclass, haddr]

/-- Of the rows of one class exactly the row of the word's address covers a word of that class, and none any other. -/
theorem filter_busRow (c' : BitVec 3) (op : Addr → Instr) :
    (allAddrs.map (busRow c' op)).filter (fun r => r.covers (c ++ a ++ d)) =
      if c = c' then [busRow c' op a] else [] := by
  have hcount : ∀ b : Addr, allAddrs.count b = 1 := by decide
  have hcovers : (fun r : OpcodeRow => r.covers (c ++ a ++ d)) ∘ busRow c' op = fun b => c == c' && b == a :=
    funext fun b => (busRow_covers c a d c' op b).trans (by rw [BEq.comm (a := a)])
  rw [List.filter_map, hcovers]
  by_cases h : c = c'
  · simp [h, List.filter_beq, hcount]
  · simp [h]

end

/-- Settles O5: by R58's cases on the class of the word, RESET's row alone, IDLE's row alone, or the row of the word's
address among those of its class. -/
theorem everyWordMatchesExactlyOneRow : Obligations.EveryWordMatchesExactlyOneRow := by
  intro w
  rw [← fields_append w]
  generalize classField w = c, addrField w = a, dataField w = d
  rw [opcodeTable_eq, wrRow, rdRow]
  simp only [List.filter_append, filter_busRow, List.filter_cons, List.filter_nil, resetRow_covers, idleRow_covers]
  rcases class_cases c with ⟨hres, hwr, hrd⟩ | ⟨hres, hcs, hwr, hrd⟩ | rfl | rfl
  · rw [decode_of_res hres]
    simp only [hres, if_neg hwr, if_neg hrd]
    rfl
  · rw [decode_of_not_cs hres hcs]
    simp only [hres, hcs, if_neg hwr, if_neg hrd]
    rfl
  · rw [decode_wr, decodeWr_mnemonic]
    rfl
  · rw [decode_rd]
    rfl

end Sys2Proof.Machine
end

section
/-! Proofs of the waveform-generator family (41_waveform_generator.md): phase A in numbers (R88, R91), the noise
register's step (R90), and the outputs of the single waveforms and of noise with any other (R97 to R99, R102). -/

namespace Sys2Proof.Machine

/-! ## Phase A with TEST clear (R88, R91) -/

theorem noiseClocks_iff (a b : BitVec 24) :
    noiseClocks a b = true ↔ a.toNat / 2 ^ 19 % 2 = 0 ∧ b.toNat / 2 ^ 19 % 2 = 1 :=
  bitRises_iff 19 a b

@[simp] theorem noiseClocks_self (a : BitVec 24) : noiseClocks a a = false :=
  Bool.not_and_self _

/-- Phase A writes the two datapath registers and the flag only. -/
theorem phaseA_eq (o : Osc) :
    phaseA o = { o with acc := (phaseA o).acc, lfsr := (phaseA o).lfsr, msbRising := (phaseA o).msbRising } := by
  unfold phaseA
  split <;> rfl

section
variable {o : Osc} (htest : o.test = false)
include htest

theorem phaseA_acc_toNat : (phaseA o).acc.toNat = (o.acc.toNat + o.freq.toNat) % 2 ^ 24 := by
  rw [phaseA_of_not_test htest]
  exact accSum_toNat o.acc o.freq

theorem phaseA_lfsr : (phaseA o).lfsr = if noiseClocks o.acc (phaseA o).acc then lfsrStep o.lfsr else o.lfsr := by
  rw [phaseA_of_not_test htest]

theorem phaseA_msbRising : (phaseA o).msbRising = msbRises o.acc (phaseA o).acc := by
  rw [phaseA_of_not_test htest]

theorem phaseA_acc_of_freq_eq_zero (hfreq : o.freq = 0) : (phaseA o).acc = o.acc := by
  apply BitVec.eq_of_toNat_eq
  rw [phaseA_acc_toNat htest, hfreq]
  exact Nat.mod_eq_of_lt o.acc.isLt

end

/-- Settles O13, from the equations of the three fields phase A writes; with `freq = 0` the accumulator stands, so
neither of its bits rises. -/
theorem accumulatePhaseWithTestClear : Obligations.AccumulatePhaseWithTestClear := by
  refine ⟨fun o htest => ⟨phaseA_acc_toNat htest, ?_, ?_, phaseA_eq o, fun hfreq => ?_⟩,
    fun o htest hacc hfreq => ?_⟩
  · rw [phaseA_lfsr htest]
    exact if_congr (noiseClocks_iff _ _) rfl rfl
  · rw [phaseA_msbRising htest]
    exact msbRises_iff _ _
  · have hstands := phaseA_acc_of_freq_eq_zero htest hfreq
    exact ⟨hstands, by simp [phaseA_lfsr htest, hstands]⟩
  · have hwrap : (phaseA o).acc = 0x001000#24 :=
      BitVec.eq_of_toNat_eq (by rw [phaseA_acc_toNat htest, hacc, hfreq]; rfl)
    refine ⟨hwrap, ?_, ?_⟩
    · rw [phaseA_msbRising htest, hwrap, hacc]
      rfl
    · rw [phaseA_lfsr htest, hwrap, hacc]
      rfl

/-! ## The noise register's step (R90) -/

/-- The shifted register has bit 0 clear, so inserting the feedback bit there adds it. -/
theorem lfsrStep_eq_add (l : BitVec 23) :
    lfsrStep l = (l <<< 1) + (BitVec.ofBool (l.getLsbD 22 ^^ l.getLsbD 17)).setWidth 23 := by
  have hdisjoint : (l <<< 1) &&& (BitVec.ofBool (l.getLsbD 22 ^^ l.getLsbD 17)).setWidth 23 = 0#23 := by
    ext i hi
    rcases i with _ | i <;> simp [BitVec.getElem_shiftLeft]
  rw [BitVec.add_eq_or_of_and_eq_zero _ _ hdisjoint]
  rfl

/-- A bit of a word in numbers. -/
theorem getLsbD_toNat {w : Nat} (x : BitVec w) (i : Nat) : (x.getLsbD i).toNat = x.toNat / 2 ^ i % 2 :=
  Nat.toNat_testBit x.toNat i

theorem xor_toNat (x y : Bool) : (x ^^ y).toNat = (x.toNat + y.toNat) % 2 := by
  cases x <;> cases y <;> rfl

/-- The exclusive or of two bits of a word, in numbers. -/
theorem xor_getLsbD_toNat {w : Nat} (x : BitVec w) (i j : Nat) :
    (x.getLsbD i ^^ x.getLsbD j).toNat = (x.toNat / 2 ^ i + x.toNat / 2 ^ j) % 2 := by
  rw [xor_toNat, getLsbD_toNat, getLsbD_toNat, ← Nat.add_mod]

theorem lfsrStep_toNat (l : BitVec 23) :
    (lfsrStep l).toNat = l.toNat * 2 % 2 ^ 23 + (l.toNat / 2 ^ 22 + l.toNat / 2 ^ 17) % 2 := by
  rw [lfsrStep_eq_add, BitVec.toNat_add, BitVec.toNat_shiftLeft, BitVec.toNat_setWidth, BitVec.toNat_ofBool,
    xor_getLsbD_toNat, Nat.shiftLeft_eq]
  omega

/-- Settles O14: the shift in numbers, `lfsrStep_ne_zero` for the zero, and the literal values evaluated. -/
theorem lfsrStepIsTheFeedbackShift : Obligations.LfsrStepIsTheFeedbackShift := by
  refine ⟨fun l => ⟨lfsrStep_toNat l, fun hzero => ?_, fun hzero => ?_⟩, by decide⟩
  · by_contra hne
    exact lfsrStep_ne_zero hne hzero
  · rw [hzero]
    rfl

/-! ## Sawtooth and pulse (R98, R99) -/

theorem acc_high_toNat (a : BitVec 24) : (a.extractLsb' 12 12).toNat = a.toNat / 2 ^ 12 := by
  have := a.isLt
  rw [BitVec.extractLsb'_toNat, Nat.shiftRight_eq_div_pow]
  omega

theorem pulseHigh_iff (o : Osc) : pulseHigh o = true ↔ o.pw.toNat ≤ o.acc.toNat / 2 ^ 12 := by
  rw [pulseHigh, decide_eq_true_iff, acc_high_toNat]

theorem pulseOut_eq (o : Osc) :
    pulseOut o = if o.acc.toNat / 2 ^ 12 ≥ o.pw.toNat then 0xFFF#12 else 0x000#12 :=
  if_congr (pulseHigh_iff o) rfl rfl

theorem pulseOut_eq_high_iff (o : Osc) : pulseOut o = 0xFFF#12 ↔ o.pw.toNat ≤ o.acc.toNat / 2 ^ 12 := by
  simp [pulseOut_eq]

theorem pulseOut_eq_low_iff (o : Osc) : pulseOut o = 0x000#12 ↔ o.acc.toNat / 2 ^ 12 < o.pw.toNat := by
  simp [pulseOut_eq]

section
variable (T : Tables) {s : State} {k : VoiceId}

theorem waveOut_of_triangle (hwave : (s.voice k).osc.waveform = 0b0001#4) :
    waveOut T s k = triangleOut (s.voice k).osc ((s.voice k.src).osc.acc.getLsbD 23) := by
  rw [waveOut, oscOut, hwave]
  rfl

theorem waveOut_of_sawtooth (hwave : (s.voice k).osc.waveform = 0b0010#4) :
    waveOut T s k = sawtoothOut (s.voice k).osc := by
  rw [waveOut, oscOut, hwave]
  rfl

theorem waveOut_of_pulse (hwave : (s.voice k).osc.waveform = 0b0100#4) :
    waveOut T s k = pulseOut (s.voice k).osc := by
  rw [waveOut, oscOut, hwave]
  rfl

end

/-- Settles O18: the sawtooth is the accumulator's upper half, and each corner case of the pulse is its comparison with
one side at a boundary value. -/
theorem sawtoothAndPulseOutputs : Obligations.SawtoothAndPulseOutputs := by
  intro T s k
  refine ⟨fun hwave => ?_, fun hwave => ?_⟩
  · rw [waveOut_of_sawtooth T hwave]
    exact ⟨acc_high_toNat _, fun hacc => by rw [sawtoothOut, hacc]; rfl⟩
  · rw [waveOut_of_pulse T hwave]
    generalize (s.voice k).osc = o
    rw [pulseOut_eq_high_iff]
    refine ⟨pulseOut_eq o, fun hpw => ?_, fun hpw => ?_, fun hacc => ?_,
      fun hpw => ⟨fun hacc => ?_, fun hacc => ?_⟩⟩
    · rw [hpw]
      exact Nat.zero_le _
    · have hbound := o.acc.isLt
      have hmax : o.pw.toNat = 0xFFF := by rw [hpw]; rfl
      omega
    · rw [hacc, ← BitVec.toNat_inj]
      exact Nat.le_zero
    · rw [pulseOut_eq_low_iff, hpw, hacc]
      decide
    · rw [hpw, hacc]
      decide

/-! ## The triangle (R97) -/

/-- The triangle's 12 bits in numbers. -/
theorem acc_middle_toNat (a : BitVec 24) : (a.extractLsb' 11 12).toNat = a.toNat / 2 ^ 11 % 2 ^ 12 := by
  rw [BitVec.extractLsb'_toNat, Nat.shiftRight_eq_div_pow]

theorem not_acc_middle_toNat (a : BitVec 24) :
    ((~~~a).extractLsb' 11 12).toNat = 0xFFF - a.toNat / 2 ^ 11 % 2 ^ 12 := by
  have := a.isLt
  rw [acc_middle_toNat, BitVec.toNat_not]
  omega

theorem acc_msb_toNat (a : BitVec 24) : a.toNat / 2 ^ 23 = (a.getLsbD 23).toNat := by
  have := a.isLt
  rw [getLsbD_toNat]
  omega

/-- The bit that inverts the triangle is the parity of the two MSBs, the source's counted under `ring_mod` only. -/
theorem triangle_inverts_iff (a q : BitVec 24) (ring : Bool) :
    (a.getLsbD 23 ^^ (ring && q.getLsbD 23)) = true
      ↔ (a.toNat / 2 ^ 23 + (if ring then q.toNat / 2 ^ 23 else 0)) % 2 = 1 := by
  have hsource : (if ring then (q.getLsbD 23).toNat else 0) = (ring && q.getLsbD 23).toNat := by cases ring <;> rfl
  rw [acc_msb_toNat, acc_msb_toNat, hsource, ← xor_toNat, Bool.toNat_eq_one]

theorem triangleOut_toNat (o : Osc) (q : BitVec 24) :
    (triangleOut o (q.getLsbD 23)).toNat =
      if (o.acc.toNat / 2 ^ 23 + (if o.ringMod then q.toNat / 2 ^ 23 else 0)) % 2 = 1 then
        0xFFF - o.acc.toNat / 2 ^ 11 % 2 ^ 12
      else o.acc.toNat / 2 ^ 11 % 2 ^ 12 := by
  rw [triangleOut, apply_ite BitVec.toNat, not_acc_middle_toNat, acc_middle_toNat]
  exact if_congr (triangle_inverts_iff o.acc q o.ringMod) rfl rfl

/-- The selector is that of the triangle alone when its four bits are. -/
theorem eq_triangle_of_bits {w : BitVec 4} (h3 : w.getLsbD 3 = false) (h2 : w.getLsbD 2 = false)
    (h1 : w.getLsbD 1 = false) (h0 : w.getLsbD 0 = true) : w = 0b0001#4 := by
  revert w
  decide

/-- Of the sixteen waveforms the triangle alone reads `ring_mod`. -/
theorem oscOut_ringMod {o : Osc} (hwave : o.waveform ≠ 0b0001#4) (b : Bool) (T : Tables) (m : ChipModel)
    (srcMsb : Bool) : oscOut T m { o with ringMod := b } srcMsb = oscOut T m o srcMsb := by
  unfold oscOut
  dsimp only
  split
  case h_2 h3 h2 h1 h0 => exact absurd (eq_triangle_of_bits h3 h2 h1 h0) hwave
  all_goals rfl

theorem VoiceId.src_ne (k : VoiceId) : k.src ≠ k := by
  cases k <;> decide

/-- Settles O19: the triangle in numbers, its examples evaluated with `ring_mod` and the source's MSB known, and
`oscOut_ringMod`, for a change of `ring_mod` leaves the source, which is another voice. -/
theorem triangleAndRingModulation : Obligations.TriangleAndRingModulation := by
  refine ⟨fun T s k hwave => ?_, fun T s k b hwave => ?_⟩
  · rw [waveOut_of_triangle T hwave]
    generalize (s.voice k).osc = o, (s.voice k.src).osc = q
    refine ⟨triangleOut_toNat o q.acc, fun hring => ?_, fun hring hhigh => ?_⟩
    · refine ⟨?_, ?_, ?_, ?_, ?_⟩
      all_goals
        intro hacc
        rw [triangleOut, hring, hacc]
        rfl
    · have hmsb : q.acc.getLsbD 23 = true := by
        have := q.acc.isLt
        rw [← Bool.toNat_eq_one, ← acc_msb_toNat]
        omega
      refine ⟨?_, ?_⟩
      all_goals
        intro hacc
        rw [triangleOut, hring, hmsb, hacc]
        rfl
  · rw [waveOut, waveOut, State.updOsc_voice_self, State.updOsc_voice_of_ne _ _ _ k.src_ne, State.updOsc_straps]
    exact oscOut_ringMod hwave b T _ _

/-! ## Noise with any other waveform (R102) -/

/-- A selector from 1001 up has the noise bit and at least one other. -/
theorem noise_mixed_of_nine_le {w : BitVec 4} (h : 9 ≤ w.toNat) :
    w.getLsbD 3 = true ∧ ¬(w.getLsbD 2 = false ∧ w.getLsbD 1 = false ∧ w.getLsbD 0 = false) := by
  revert w
  decide

theorem oscOut_of_noise_mixed {o : Osc} (hwave : 9 ≤ o.waveform.toNat) (T : Tables) (m : ChipModel)
    (srcMsb : Bool) : oscOut T m o srcMsb = 0 := by
  obtain ⟨hnoise, hmixed⟩ := noise_mixed_of_nine_le hwave
  rw [oscOut, hnoise]
  cases h2 : o.waveform.getLsbD 2 <;> cases h1 : o.waveform.getLsbD 1 <;> cases h0 : o.waveform.getLsbD 0
  case false.false.false => exact absurd ⟨h2, h1, h0⟩ hmixed
  all_goals rfl

/-- The selector takes no part in phase A. -/
theorem phaseA_withWaveform (o : Osc) (w : BitVec 4) :
    phaseA { o with waveform := w } = { phaseA o with waveform := w } := by
  unfold phaseA
  dsimp only
  split <;> rfl

/-- A TICK steps the noise register in phase A and nowhere else. -/
theorem tick_lfsr (T : Tables) (s : State) (k : VoiceId) :
    ((tick T s).voice k).osc.lfsr = (phaseA (s.voice k).osc).lfsr := by
  rw [tick_voice, phaseB_lfsr]

/-- Settles O22, by the bits of the selector and by `tick_lfsr`: phase A does not read the selector. -/
theorem noiseCombinationsAreSilent : Obligations.NoiseCombinationsAreSilent := by
  refine fun T s k => ⟨fun hwave => oscOut_of_noise_mixed hwave T _ _, fun w => ?_⟩
  rw [tick_lfsr, tick_lfsr, State.updOsc_voice_self, phaseA_withWaveform]

end Sys2Proof.Machine
end

section
/-! Proofs of the voice-mixer family (43_voice.md): the voice sample and its range (R133 to R137), and the sampling
instant of the filter's three assignments (R138, R149). -/

namespace Sys2Proof.Machine

/-! ## The voice sample (R135 to R137) -/

section
variable (T : Tables) {s : State} {k : VoiceId}

theorem voiceSample_of_mute (hmute : s.straps.mute k = true) : voiceSample T s k = 0 :=
  if_pos hmute

theorem voiceSample_of_not_mute (hmute : s.straps.mute k = false) :
    voiceSample T s k =
      ((waveDac T s.straps.chipModel (waveOut T s k)).toNat - 0x800)
        * (envDac T s.straps.chipModel (s.voice k).env.envelopeCounter).toNat :=
  if_neg (Bool.eq_false_iff.mp hmute)

end

/-- A 12-bit DAC value less the zero level, times an 8-bit one: −2048 × 255 to 2047 × 255. -/
theorem dacProduct_bounds (x : BitVec 12) (e : Byte) :
    -522240 ≤ ((x.toNat : Int) - 0x800) * e.toNat ∧ ((x.toNat : Int) - 0x800) * e.toNat ≤ 521985 := by
  have hx := x.isLt
  have he := e.isLt
  have hlow : -2048 * (e.toNat : Int) ≤ ((x.toNat : Int) - 0x800) * e.toNat :=
    Int.mul_le_mul_of_nonneg_right (by omega) (Int.natCast_nonneg _)
  have hhigh : ((x.toNat : Int) - 0x800) * e.toNat ≤ 2047 * (e.toNat : Int) :=
    Int.mul_le_mul_of_nonneg_right (by omega) (Int.natCast_nonneg _)
  omega

theorem voiceSample_bounds (T : Tables) (s : State) (k : VoiceId) :
    -522240 ≤ voiceSample T s k ∧ voiceSample T s k ≤ 521985 := by
  cases hmute : s.straps.mute k
  · rw [voiceSample_of_not_mute T hmute]
    exact dacProduct_bounds _ _
  · rw [voiceSample_of_mute T hmute]
    decide

/-- Settles O55: an unmuted sample is the product of the two DAC values, whose tables the chip model selects; the range
needs only that those values have 12 and 8 bits. -/
theorem voiceSampleRange : Obligations.VoiceSampleRange := by
  intro T s k
  refine ⟨voiceSample_of_mute T, fun hmute hmodel => ?_, fun hmute hmodel => ?_, voiceSample_bounds T s k⟩
  · rw [voiceSample_of_not_mute T hmute, hmodel]
    rfl
  · rw [voiceSample_of_not_mute T hmute, hmodel]
    rfl

/-! ## The filter's assignments in a TICK (R138, R149) -/

section
variable (w0 invQ vi : Int) (f : Filter)

theorem filterStep_vhp : (filterStep w0 invQ vi f).vhp = f.vbp * invQ / 2 ^ 10 - f.vlp - vi :=
  congrArg (· - f.vlp - vi) (floorShift_eq_div _ qShift)

theorem filterStep_vbp :
    (filterStep w0 invQ vi f).vbp = f.vbp - w0 * (filterStep w0 invQ vi f).vhp / 2 ^ 20 :=
  congrArg (f.vbp - ·) (floorShift_eq_div _ w0Shift)

theorem filterStep_vlp :
    (filterStep w0 invQ vi f).vlp = f.vlp - w0 * (filterStep w0 invQ vi f).vbp / 2 ^ 20 :=
  congrArg (f.vlp - ·) (floorShift_eq_div _ w0Shift)

end

section
variable (T : Tables) (s : State)

theorem tick_filter_filt : (tick T s).filter.filt = s.filter.filt := by
  rw [tick_filter, tickFilter_filter]
  rfl

/-- What the filter part of a TICK samples is the `Vi` of the state the whole TICK leaves: the filter and
external-filter parts write nothing that `Vi` reads (R138). -/
theorem filterIn_tick :
    filterIn T (tick T s) = filterIn T (tickPhaseB (tickPhaseA (tickEnvelopes s))) :=
  filterIn_congr T (fun k => by simp [tick]) (tick_straps T s) (tick_inputs T s) (tick_filter_filt T s)

variable {s}

theorem tickFilter_filter_of_filterEn (hen : s.straps.filterEn = true) :
    (tickFilter T s).filter =
      filterStep (cutoffDac T s.straps.chipModel s.filter.fc) (resonanceTable T s.straps.chipModel s.filter.res)
        (filterIn T s) s.filter := by
  rw [tickFilter, if_pos hen]

theorem tick_filter_of_filterEn (hen : s.straps.filterEn = true) :
    (tick T s).filter =
      filterStep (cutoffDac T s.straps.chipModel s.filter.fc) (resonanceTable T s.straps.chipModel s.filter.res)
        (filterIn T (tick T s)) s.filter := by
  rw [filterIn_tick, tick_filter]
  exact tickFilter_filter_of_filterEn T (s := tickPhaseB (tickPhaseA (tickEnvelopes s))) hen

end

/-- Settles O48: the TICK's effect on the filter is one filter step on the `Vi` of the state it leaves, and each of the
step's assignments reads the value assigned before it. -/
theorem filterTick : Obligations.FilterTick := by
  intro T s hen
  dsimp only
  rw [tick_filter_of_filterEn T hen]
  exact ⟨filterStep_vhp .., filterStep_vbp .., filterStep_vlp ..⟩

end Sys2Proof.Machine
end

section
/-! Proofs of the filter family (44_filter.md): the internal output and what it reads (R152), and the external filter's
output (R165). -/

namespace Sys2Proof.Machine

/-! ## What the internal output reads (R146, R151, R152) -/

section
variable (T : Tables) {s t : State}

theorem filterTaps_congr (hf : t.filter = s.filter) (hs : t.straps = s.straps) : filterTaps t = filterTaps s := by
  rw [filterTaps, filterTaps, hf, hs]

theorem filterBypass_congr (hv : ∀ k, t.voice k = s.voice k) (hf : t.filter = s.filter) (hs : t.straps = s.straps)
    (hi : t.inputs.extIn = s.inputs.extIn) : filterBypass T t = filterBypass T s := by
  have hroute : routeMask t = routeMask s := by rw [routeMask, routeMask, hs, hf]
  have hext : extSample t = extSample s := congrArg BitVec.toInt hi
  simp only [filterBypass, hroute, hext, voiceSample_congr T _ hv hs, hf]

theorem internalOut_congr (hv : ∀ k, t.voice k = s.voice k) (hf : t.filter = s.filter) (hs : t.straps = s.straps)
    (hi : t.inputs.extIn = s.inputs.extIn) : internalOut T t = internalOut T s := by
  rw [internalOut, internalOut, filterTaps_congr hf hs, filterBypass_congr T hv hf hs hi, hf]

/-! ## The external filter's output (R165, R167) -/

theorem audioOut_of_extfiltEn (hen : s.straps.extfiltEn = true) : audioOut T s = clamp16 (extOut s.ext) :=
  if_pos hen

end

theorem extOut_eq_div (x : ExtFilter) : extOut x = (x.vlpExt - x.vhpExt) / 2 ^ 11 :=
  floorShift_eq_div _ extScale

/-- Settles O51: the product is the definition of `internalOut`, which reads the state only through its factors
(`internalOut_congr`); the external output is the floored quotient, clamped when the external filter is enabled. -/
theorem internalAndExternalOutputs : Obligations.InternalAndExternalOutputs := by
  refine ⟨fun T s => ⟨rfl, fun htaps hbypass hvol => ?_, fun t hv hf hs hi => internalOut_congr T hv hf hs hi,
    audioOut_of_extfiltEn T⟩, fun x => ⟨extOut_eq_div x, fun hlp hhp => ?_⟩⟩
  · rw [internalOut, htaps, hbypass, hvol]
    rfl
  · rw [extOut_eq_div, hlp, hhp]
    rfl

end Sys2Proof.Machine
end

section
/-! Proofs of the external-filter family (45_external_filter.md): the range of AUDIO_OUT and the narrower outputs of the
source's `output(bits)` (R167, R168). -/

namespace Sys2Proof.Machine

/-! ## The range of AUDIO_OUT (R167) -/

section
variable (T : Tables) (s : State)

theorem audioOut_of_not_extfiltEn (hen : s.straps.extfiltEn = false) : audioOut T s = clamp16 (scaledOut T s) :=
  if_neg (Bool.eq_false_iff.mp hen)

theorem audioOut_bounds : -32768 ≤ audioOut T s ∧ audioOut T s ≤ 32767 := by
  cases hen : s.straps.extfiltEn
  · rw [audioOut_of_not_extfiltEn T s hen]
    exact clamp16_bounds _
  · rw [audioOut_of_extfiltEn T hen]
    exact clamp16_bounds _

end

/-! ## Outputs of fewer bits (R168) -/

/-- The upper `bits` bits of a signed 16-bit value are a signed value of `bits` bits: the range scales with the shift,
as `2 ^ (bits - 1) * 2 ^ (16 - bits) = 2 ^ 15`. -/
theorem floorShift_bounds {x : Int} (hx : -32768 ≤ x) (hx' : x ≤ 32767) {bits : Nat} (hlo : 1 ≤ bits)
    (hhi : bits ≤ 16) :
    -(2 ^ (bits - 1)) ≤ floorShift x (16 - bits) ∧ floorShift x (16 - bits) ≤ 2 ^ (bits - 1) - 1 := by
  have hscale : (2 : Int) ^ (bits - 1) * ((2 ^ (16 - bits) : Nat) : Int) = 32768 := by
    rw [Nat.cast_pow, Nat.cast_ofNat, ← pow_add, show bits - 1 + (16 - bits) = 15 by omega]
    rfl
  have hpos : (0 : Int) < ((2 ^ (16 - bits) : Nat) : Int) := Int.natCast_pos.mpr (Nat.two_pow_pos _)
  rw [floorShift_eq_div]
  constructor
  · rw [Int.le_ediv_iff_mul_le hpos, neg_mul, hscale]
    exact hx
  · rw [Int.le_sub_one_iff, Int.ediv_lt_iff_lt_mul hpos, hscale]
    omega

section
variable (T : Tables) (s : State) {bits : Nat}

theorem audioOutBits_of_inRange (hbits : 1 ≤ bits ∧ bits ≤ 16) :
    audioOutBits T s bits = some (floorShift (audioOut T s) (16 - bits)) :=
  if_pos hbits

theorem audioOutBits_of_not_inRange (hbits : ¬(1 ≤ bits ∧ bits ≤ 16)) : audioOutBits T s bits = none :=
  if_neg hbits

theorem audioOutBits_sixteen : audioOutBits T s 16 = some (audioOut T s) := by
  rw [audioOutBits_of_inRange T s (by decide), floorShift_eq_div, Nat.sub_self, Nat.pow_zero, Nat.cast_one,
    Int.ediv_one]

end

/-- Settles O54: within 1 to 16 the value is AUDIO_OUT shifted down, whose range `floorShift_bounds` scales from that of
AUDIO_OUT (`audioOut_bounds`); outside, the guard gives no value. -/
theorem outputBitsFitsItsWidth : Obligations.OutputBitsFitsItsWidth := by
  intro T s bits
  refine ⟨fun hlo hhi => ⟨_, audioOutBits_of_inRange T s ⟨hlo, hhi⟩, ?_, ?_⟩, audioOutBits_sixteen T s,
    audioOutBits_of_not_inRange T s⟩
  · rw [floorShift_eq_div, Nat.cast_pow, Nat.cast_ofNat]
  · obtain ⟨hx, hx'⟩ := audioOut_bounds T s
    exact floorShift_bounds hx hx' hlo hhi

end Sys2Proof.Machine
end

section
/-! Proofs of the scheduler family (46_scheduler.md): every cycle completes (R189), what a TICK leaves alone (R174),
`clock` as the iteration of the TICK (R180), the bus cycles with no register behind them and the four read registers
(R176 to R178), and what straps, inputs and filter states never reach (R185, R186). -/

namespace Sys2Proof.Machine

/-! ## The filter's register fields (R24) -/

/-- The filter with its integrator states blanked: what is left are the register fields. -/
def Filter.regs (f : Filter) : Filter := { f with vhp := 0, vbp := 0, vlp := 0 }

theorem Filter.regs_eq_iff {f g : Filter} :
    g.regs = f.regs ↔ g = { f with vhp := g.vhp, vbp := g.vbp, vlp := g.vlp } := by
  cases f
  cases g
  simp [Filter.regs]

@[simp] theorem tick_filter_regs (T : Tables) (s : State) : (tick T s).filter.regs = s.filter.regs := by
  rw [tick_filter, tickFilter_filter]
  rfl

/-! ## What straps, inputs and filter states never reach (R185, R186) -/

/-- `s` and `t` agree on the digital part of the core: the voices, `bus_value` and the filter's register fields. -/
structure State.SameDigital (s t : State) : Prop where
  voice : ∀ k, t.voice k = s.voice k
  busValue : t.busValue = s.busValue
  regs : t.filter.regs = s.filter.regs

namespace State.SameDigital

variable {s t : State}

/-- A TICK steps each voice from the voices alone, whatever the filter and the external filter do. -/
theorem tick (h : s.SameDigital t) (T : Tables) : (tick T s).SameDigital (tick T t) where
  voice k := by rw [tick_voice, tick_voice, h.voice, h.voice]
  busValue := by rw [tick_busValue, tick_busValue, h.busValue]
  regs := by rw [tick_filter_regs, tick_filter_regs, h.regs]

theorem withBus (h : s.SameDigital t) (d : Byte) : (s.withBus d).SameDigital (t.withBus d) where
  voice k := by simp only [voice_update, h.voice]
  busValue := rfl
  regs := h.regs

theorem withDataOut (h : s.SameDigital t) (x y : Option Byte) :
    State.SameDigital { s with dataOut := x } { t with dataOut := y } where
  voice k := by simp only [voice_update, h.voice]
  busValue := h.busValue
  regs := h.regs

theorem setVoice (h : s.SameDigital t) (k : VoiceId) (v : Voice) : (s.setVoice k v).SameDigital (t.setVoice k v) where
  voice j := by
    by_cases hjk : j = k
    · rw [hjk, voice_setVoice_self, voice_setVoice_self]
    · rw [voice_setVoice_of_ne _ _ _ hjk, voice_setVoice_of_ne _ _ _ hjk, h.voice]
  busValue := by rw [setVoice_busValue, setVoice_busValue, h.busValue]
  regs := by rw [setVoice_filter, setVoice_filter, h.regs]

theorem updOsc (h : s.SameDigital t) (k : VoiceId) (f : Osc → Osc) : (s.updOsc k f).SameDigital (t.updOsc k f) := by
  rw [State.updOsc, State.updOsc, h.voice]
  exact h.setVoice k _

theorem updEnv (h : s.SameDigital t) (k : VoiceId) (f : Env → Env) : (s.updEnv k f).SameDigital (t.updEnv k f) := by
  rw [State.updEnv, State.updEnv, h.voice]
  exact h.setVoice k _

/-- A rule that writes the filter only, and there, the integrator states aside, a value of the register fields. -/
theorem filterRule (h : s.SameDigital t) {rule : State → State}
    (hframe : ∀ u, rule u = { u with filter := (rule u).filter })
    (hregs : ∀ u v : State, (rule u).filter.regs = (rule { v with filter := u.filter.regs }).filter) :
    (rule s).SameDigital (rule t) where
  voice k := by rw [hframe s, hframe t]; simp only [voice_update, h.voice]
  busValue := by rw [hframe s, hframe t, h.busValue]
  regs := by rw [hregs t s, hregs s s, h.regs]

theorem writeVoiceReg (h : s.SameDigital t) (k : VoiceId) (n : Nat) (d : Byte) :
    (writeVoiceReg k n d s).SameDigital (writeVoiceReg k n d t) := by
  unfold Machine.writeVoiceReg
  split_ifs
  · exact h.updOsc k _
  · exact h.updOsc k _
  · exact h.updOsc k _
  · exact h.updOsc k _
  · exact (h.updOsc k _).updEnv k _
  · exact h.updEnv k _
  · exact h.updEnv k _

theorem writeReg (h : s.SameDigital t) (a : Addr) (d : Byte) : (writeReg a d s).SameDigital (writeReg a d t) := by
  have hbus := h.withBus d
  unfold Machine.writeReg
  dsimp only
  split_ifs
  · exact hbus.writeVoiceReg _ _ d
  · exact hbus.filterRule (rule := writeFcLo d) (fun _ => rfl) (fun _ _ => rfl)
  · exact hbus.filterRule (rule := writeFcHi d) (fun _ => rfl) (fun _ _ => rfl)
  · exact hbus.filterRule (rule := writeResFilt d) (fun _ => rfl) (fun _ _ => rfl)
  · exact hbus.filterRule (rule := writeModeVol d) (fun _ => rfl) (fun _ _ => rfl)
  · exact hbus

theorem resetCycle : (resetCycle s).SameDigital (resetCycle t) where
  voice k := by rw [resetCycle_voice, resetCycle_voice]
  busValue := rfl
  regs := rfl

/-- Every operation completes and keeps the agreement: RESET makes it, and any other cycle is a TICK, a register write
at most, and a byte on DATA_OUT. -/
theorem exec (h : s.SameDigital t) (i : Instr) :
    ∃ s' t', exec i s = .next s' ∧ exec i t = .next t' ∧ s'.SameDigital t' := by
  have htick := h.tick Config.tables
  rcases instr_cases i with rfl | rfl | ⟨r, d, rfl⟩ | ⟨r, rfl⟩
  · exact ⟨_, _, exec_reset s, exec_reset t, resetCycle⟩
  · exact ⟨_, _, exec_idle s, exec_idle t, htick.withDataOut none none⟩
  · exact ⟨_, _, exec_decodeWr r d s, exec_decodeWr r d t, (htick.writeReg r.addr d).withDataOut none none⟩
  · exact ⟨_, _, exec_decodeRd r s, exec_decodeRd r t, htick.withDataOut _ _⟩

end State.SameDigital

/-- Settles O57: the two states agree on the digital part, and every operation keeps that. -/
theorem strapsAndInputsDoNotReachTheVoices : Obligations.StrapsAndInputsDoNotReachTheVoices := by
  intro i s p x vhp vbp vlp e
  have hsame : s.SameDigital { s with
      straps := p, inputs := x, filter := { s.filter with vhp := vhp, vbp := vbp, vlp := vlp }, ext := e } :=
    ⟨fun _ => State.voice_update .., rfl, rfl⟩
  obtain ⟨t, t', ht, ht', hvoice, hbus, hregs⟩ := hsame.exec i
  exact ⟨t, t', ht, ht', hvoice, hbus, Filter.regs_eq_iff.mp hregs⟩

/-! ## Every cycle completes (R189) -/

theorem run_succ_of_next {M : Host.Core} {s t : M.State} (h : M.step s = .next t) (n : Nat) :
    M.run (n + 1) s = M.run n t := by
  rw [Host.Core.run, h]

theorem run_next (n : Nat) (s : Sys2Proof.core.State) : ∃ t, Sys2Proof.core.run n s = .next t := by
  induction n generalizing s with
  | zero => exact ⟨s, rfl⟩
  | succ n ih =>
    obtain ⟨t, ht⟩ : ∃ t, Sys2Proof.core.step s = .next t := exec_next _ _
    rw [run_succ_of_next ht]
    exact ih t

/-- Settles O6: `exec_next` for one operation, and for a run the induction on its steps. -/
theorem everyOperationCompletes : Obligations.EveryOperationCompletes :=
  ⟨exec_next, run_next⟩

/-! ## The TICK and its iteration (R174, R180) -/

/-- Settles O10: by `tick_voice` a voice passes through the two phases and the envelope part, which keep its register
fields; the filter step keeps those of the filter. -/
theorem tickLeavesRegistersAlone : Obligations.TickLeavesRegistersAlone := by
  intro T s
  refine ⟨fun k => ?_, Filter.regs_eq_iff.mp (tick_filter_regs T s), tick_busValue T s, tick_straps T s,
    tick_inputs T s, tick_pending T s, tick_dataOut T s⟩
  simp [tick_voice]

theorem clock_add (T : Tables) (a b : Nat) (s : State) : clock T (a + b) s = clock T b (clock T a s) := by
  induction a generalizing s with
  | zero => rw [Nat.zero_add, clock]
  | succ a ih => rw [Nat.add_right_comm, clock, clock, ih]

/-- Settles O12, by induction on the TICKs of the first run. -/
theorem clockIsAdditive : Obligations.ClockIsAdditive :=
  fun T a b s => ⟨rfl, rfl, (clock_add T a b s).symm⟩

/-! ## Bus cycles at addresses with no register behind them (R177, R178) -/

theorem writeReg_of_ignored {a : Addr} (ha : 24 < a.toNat) (d : Byte) (s : State) : writeReg a d s = s.withBus d := by
  unfold writeReg
  rw [if_neg (by omega), if_neg (by omega), if_neg (by omega), if_neg (by omega), if_neg (by omega)]
  rfl

theorem readReg_of_bus {a : Addr} (ha : a.toNat < 25 ∨ 28 < a.toNat) (T : Tables) (s : State) :
    readReg T a s = s.busValue := by
  unfold readReg
  rw [if_neg (by omega), if_neg (by omega), if_neg (by omega), if_neg (by omega)]
  rfl

/-- A read operation completes with the byte that its register shows after the TICK. -/
theorem exec_decodeRd_of_read {r : Reg} {s : State} {b : Byte}
    (h : readReg Config.tables r.addr (tick Config.tables s) = b) :
    exec (decodeRd r) s = .next { tick Config.tables s with dataOut := some b } := by
  rw [exec_decodeRd, h]

/-- Settles O41: the seven operations are the writes at the addresses above 24. -/
theorem ignoredWrites : Obligations.IgnoredWrites := by
  intro d s i hi
  have hi' : i ∈ (allAddrs.filter (24 < ·.toNat)).map fun a => decodeWr (Reg.ofAddr a) d := hi
  obtain ⟨a, ha, rfl⟩ := List.mem_map.mp hi'
  have hignored : 24 < a.toNat := of_decide_eq_true (List.mem_filter.mp ha).2
  rw [exec_decodeWr, Reg.addr_ofAddr, writeReg_of_ignored hignored]

/-- Settles O43: the 28 operations are the reads at the addresses below 25 and above 28. -/
theorem otherReadsReturnBusValue : Obligations.OtherReadsReturnBusValue := by
  intro s i hi
  have hi' : i ∈ (allAddrs.filter fun a => a.toNat < 25 ∨ 28 < a.toNat).map fun a => decodeRd (Reg.ofAddr a) := hi
  obtain ⟨a, ha, rfl⟩ := List.mem_map.mp hi'
  have hbus : a.toNat < 25 ∨ 28 < a.toNat := of_decide_eq_true (List.mem_filter.mp ha).2
  exact exec_decodeRd_of_read (by rw [Reg.addr_ofAddr, readReg_of_bus hbus, tick_busValue])

/-! ## The four read registers (R103, R126, R176) -/

theorem readOsc3_toNat (T : Tables) (s : State) : (readOsc3 T s).toNat = (waveOut T s .v3).toNat / 16 := by
  have := (waveOut T s .v3).isLt
  rw [readOsc3, BitVec.extractLsb'_toNat, Nat.shiftRight_eq_div_pow]
  omega

/-- Settles O42: each register reads its value in the state after the TICK, and the TICK keeps the POT inputs. -/
theorem readRegisterReads : Obligations.ReadRegisterReads := by
  intro s
  refine ⟨exec_decodeRd_of_read (r := .potx) ?_, exec_decodeRd_of_read (r := .poty) ?_,
    exec_decodeRd_of_read (r := .env3) rfl, readOsc3 Config.tables (tick Config.tables s), readOsc3_toNat _ _,
    exec_decodeRd_of_read (r := .osc3) rfl⟩
  · exact congrArg Inputs.potX (tick_inputs Config.tables s)
  · exact congrArg Inputs.potY (tick_inputs Config.tables s)

end Sys2Proof.Machine
end

section
/-! Proofs of the reset-and-hazards family (70_reset_and_hazards.md): the two bytes of a register pair written in
successive cycles (R218), and the exact length of a full attack and of a full release (R228). -/

namespace Sys2Proof.Machine

/-! ## Register pairs: one write cycle of an oscillator (R81 to R84, R175) -/

section
variable (k : VoiceId) (d : Byte) (s : State)

theorem exec_wrFreqLo : exec (k.wrFreqLo d) s = .next (wrCycle Config.tables (writeFreqLo k d) d s) := by
  cases k <;> rfl

theorem exec_wrFreqHi : exec (k.wrFreqHi d) s = .next (wrCycle Config.tables (writeFreqHi k d) d s) := by
  cases k <;> rfl

theorem exec_wrPwLo : exec (k.wrPwLo d) s = .next (wrCycle Config.tables (writePwLo k d) d s) := by
  cases k <;> rfl

theorem exec_wrPwHi : exec (k.wrPwHi d) s = .next (wrCycle Config.tables (writePwHi k d) d s) := by
  cases k <;> rfl

variable (T : Tables)

/-- A write cycle whose rule is for one oscillator applies the rule to what the TICK left of it (D4). -/
theorem wrCycle_updOsc_osc (f : Osc → Osc) :
    ((wrCycle T (fun u => u.updOsc k f) d s).voice k).osc = f ((tick T s).voice k).osc := by
  simp only [wrCycle, State.voice_update, State.updOsc_voice_self]

theorem tick_freq : ((tick T s).voice k).osc.freq = (s.voice k).osc.freq := by simp [tick_voice]

theorem tick_pw : ((tick T s).voice k).osc.pw = (s.voice k).osc.pw := by simp [tick_voice]

theorem wrCycle_writeFreqLo_freq :
    ((wrCycle T (writeFreqLo k d) d s).voice k).osc.freq = withFreqLo (s.voice k).osc.freq d := by
  rw [← tick_freq k s T]
  exact congrArg Osc.freq (wrCycle_updOsc_osc k d s T _)

theorem wrCycle_writeFreqHi_freq :
    ((wrCycle T (writeFreqHi k d) d s).voice k).osc.freq = withFreqHi (s.voice k).osc.freq d := by
  rw [← tick_freq k s T]
  exact congrArg Osc.freq (wrCycle_updOsc_osc k d s T _)

theorem wrCycle_writePwLo_pw :
    ((wrCycle T (writePwLo k d) d s).voice k).osc.pw = withPwLo (s.voice k).osc.pw d := by
  rw [← tick_pw k s T]
  exact congrArg Osc.pw (wrCycle_updOsc_osc k d s T _)

theorem wrCycle_writePwHi_pw :
    ((wrCycle T (writePwHi k d) d s).voice k).osc.pw = withPwHi (s.voice k).osc.pw d := by
  rw [← tick_pw k s T]
  exact congrArg Osc.pw (wrCycle_updOsc_osc k d s T _)

/-- A FREQ_LO write sets neither TEST nor SYNC, and the TICK before it keeps both. -/
theorem wrCycle_writeFreqLo_test_sync :
    ((wrCycle T (writeFreqLo k d) d s).voice k).osc.test = (s.voice k).osc.test
      ∧ ((wrCycle T (writeFreqLo k d) d s).voice k).osc.sync = (s.voice k).osc.sync := by
  have hosc : ((wrCycle T (writeFreqLo k d) d s).voice k).osc = _ := wrCycle_updOsc_osc k d s T _
  simp [hosc, tick_voice]

theorem wrCycle_writeFreqHi_acc :
    ((wrCycle T (writeFreqHi k d) d s).voice k).osc.acc = ((tick T s).voice k).osc.acc := by
  have hosc : ((wrCycle T (writeFreqHi k d) d s).voice k).osc = _ := wrCycle_updOsc_osc k d s T _
  rw [hosc]

/-- The TICK of a voice that is neither held by TEST nor synced accumulates its frequency (R88, R93). -/
theorem tick_acc_toNat {k : VoiceId} {s : State} (htest : (s.voice k).osc.test = false)
    (hsync : (s.voice k).osc.sync = false) :
    ((tick T s).voice k).osc.acc.toNat = ((s.voice k).osc.acc.toNat + (s.voice k).osc.freq.toNat) % 2 ^ 24 := by
  rw [tick_voice, ← phaseA_acc_toNat htest]
  simp [phaseB, hsync]

end

/-- Settles O40: each cycle puts its byte into the frequency the TICK kept, and the second cycle's TICK, which comes
before its write, accumulates the frequency the first one left. -/
theorem frequencyPairTears : Obligations.FrequencyPairTears := by
  intro k lo hi s
  have hlo := lo.isLt
  have hhi := hi.isLt
  have hfreq := (s.voice k).osc.freq.isLt
  refine ⟨⟨_, _, exec_wrFreqLo k lo s, exec_wrFreqHi k hi _, ?_, ?_, fun htest hsync => ?_⟩,
    _, _, exec_wrFreqHi k hi s, exec_wrFreqLo k lo _, ?_, ?_⟩
  · rw [wrCycle_writeFreqLo_freq, withFreqLo_toNat]
  · rw [wrCycle_writeFreqHi_freq, withFreqHi_toNat, wrCycle_writeFreqLo_freq, withFreqLo_toNat]
    omega
  · obtain ⟨htest', hsync'⟩ := wrCycle_writeFreqLo_test_sync k lo s Config.tables
    rw [wrCycle_writeFreqHi_acc]
    exact tick_acc_toNat _ (htest'.trans htest) (hsync'.trans hsync)
  · rw [wrCycle_writeFreqHi_freq, withFreqHi_toNat]
  · rw [wrCycle_writeFreqLo_freq, withFreqLo_toNat, wrCycle_writeFreqHi_freq, withFreqHi_toNat]
    omega

/-! ## Register pairs: one write cycle of the cutoff (R141, R142, R175) -/

section
variable (d : Byte) (s : State)

theorem exec_wrFcLo : exec (.wrFcLo d) s = .next (wrCycle Config.tables (writeFcLo d) d s) := rfl

theorem exec_wrFcHi : exec (.wrFcHi d) s = .next (wrCycle Config.tables (writeFcHi d) d s) := rfl

variable (T : Tables)

theorem tick_filter_fc : (tick T s).filter.fc = s.filter.fc := by
  rw [tick_filter, tickFilter_filter]
  rfl

theorem wrCycle_writeFcLo_fc : (wrCycle T (writeFcLo d) d s).filter.fc = withFcLo s.filter.fc d :=
  congrArg (withFcLo · d) (tick_filter_fc s T)

theorem wrCycle_writeFcHi_fc : (wrCycle T (writeFcHi d) d s).filter.fc = withFcHi s.filter.fc d :=
  congrArg (withFcHi · d) (tick_filter_fc s T)

theorem wrCycle_writeFcLo_straps : (wrCycle T (writeFcLo d) d s).straps = s.straps := tick_straps T s

/-- With FILTER_EN = 1 the TICK moves `Vbp` by the cutoff in force before it (R149). -/
theorem tick_filter_vbp {s : State} (hen : s.straps.filterEn = true) :
    (tick T s).filter.vbp =
      s.filter.vbp - cutoffDac T s.straps.chipModel s.filter.fc * (tick T s).filter.vhp / 2 ^ 20 := by
  rw [tick_filter_of_filterEn T hen]
  exact filterStep_vbp ..

end

/-- Settles O60: each cycle puts its part into the field the TICK kept; the FC_HI cycle's write leaves `Vhp` and `Vbp`
as its TICK made them, from the cutoff the FC_LO cycle left. -/
theorem pulseWidthAndCutoffPairsTear : Obligations.PulseWidthAndCutoffPairsTear := by
  intro lo hi s
  have hlo := lo.isLt
  have hhi := hi.isLt
  refine ⟨fun k => ⟨⟨_, _, exec_wrPwLo k lo s, exec_wrPwHi k hi _, ?_, ?_⟩,
      _, _, exec_wrPwHi k hi s, exec_wrPwLo k lo _, ?_, ?_⟩,
    ⟨_, _, exec_wrFcLo lo s, exec_wrFcHi hi _, ?_, ?_, fun hen => ?_⟩,
    _, _, exec_wrFcHi hi s, exec_wrFcLo lo _, ?_, ?_⟩
  · rw [wrCycle_writePwLo_pw, withPwLo_toNat]
  · rw [wrCycle_writePwHi_pw, withPwHi_toNat, wrCycle_writePwLo_pw, withPwLo_toNat]
    omega
  · rw [wrCycle_writePwHi_pw, withPwHi_toNat]
  · rw [wrCycle_writePwLo_pw, withPwLo_toNat, wrCycle_writePwHi_pw, withPwHi_toNat]
    omega
  · rw [wrCycle_writeFcLo_fc, withFcLo_toNat]
  · rw [wrCycle_writeFcHi_fc, withFcHi_toNat, wrCycle_writeFcLo_fc, withFcLo_toNat]
    omega
  · have hstraps := wrCycle_writeFcLo_straps lo s Config.tables
    rw [← hstraps] at hen ⊢
    exact tick_filter_vbp Config.tables hen
  · rw [wrCycle_writeFcHi_fc, withFcHi_toNat]
  · rw [wrCycle_writeFcLo_fc, withFcLo_toNat, wrCycle_writeFcHi_fc, withFcHi_toNat]
    omega

/-! ## An envelope over several TICKs (R180) -/

/-- Over `n` TICKs an envelope generator goes its own way: no TICK of it reads any other part of the state. -/
theorem clock_env (T : Tables) (n : Nat) (s : State) (k : VoiceId) :
    ((clock T n s).voice k).env = envTick^[n] (s.voice k).env := by
  induction n generalizing s with
  | zero => rfl
  | succ n ih => rw [clock, ih, Function.iterate_succ_apply, tick_voice]

/-- A rate counter below its period reaches it by counting, with no wrap at 2^15 (D8). -/
theorem rateCounter_succ_toNat {e : Env} (h : e.rateCounter.toNat < ratePeriod (rateIndex e)) :
    (e.rateCounter + 1).toNat = e.rateCounter.toNat + 1 := by
  obtain ⟨-, hmax⟩ := ratePeriod_pos (rateIndex e)
  bv_omega

/-- The cases of `rateStep_cases` for a rate counter below its period, which matches one short of it (R121). -/
theorem rateStep_cases_of_lt {e : Env} (h : e.rateCounter.toNat < ratePeriod (rateIndex e)) :
    (e.rateCounter.toNat + 1 < ratePeriod (rateIndex e) ∧ rateStep e = { e with rateCounter := e.rateCounter + 1 })
    ∨ (e.rateCounter.toNat + 1 = ratePeriod (rateIndex e) ∧ (e.expCounter + 1).toNat ≠ expPeriod (expIndex e)
        ∧ rateStep e = { e with rateCounter := 0, expCounter := e.expCounter + 1 })
    ∨ (e.rateCounter.toNat + 1 = ratePeriod (rateIndex e) ∧ (e.expCounter + 1).toNat = expPeriod (expIndex e)
        ∧ rateStep e = envelopeStep { e with rateCounter := 0, expCounter := 0 }) := by
  rcases rateStep_cases e with ⟨hno, hstep⟩ | ⟨hyes, hrest⟩ | ⟨hyes, hrest⟩
  · have hne : e.rateCounter.toNat + 1 ≠ ratePeriod (rateIndex e) := ne_of_beq_false hno
    exact .inl ⟨by omega, hstep⟩
  · exact .inr (.inl ⟨eq_of_beq hyes, hrest⟩)
  · exact .inr (.inr ⟨eq_of_beq hyes, hrest⟩)

/-! ## A full attack (R128 c, R228) -/

/-- `e` is in an attack with rate period `p`, and `m` TICKs bring an attack from 0 to its counters. -/
structure Env.AttackedFor (e : Env) (p m : Nat) : Prop where
  envState : e.envState = .attack
  expCounter : e.expCounter = 0
  period : ratePeriod (rateIndex e) = p
  rateCounter : e.rateCounter.toNat < p
  ticks : e.envelopeCounter.toNat * p + e.rateCounter.toNat = m

namespace Env.AttackedFor

variable {e : Env} {p m : Nat}

theorem envelopeCounter_eq (h : e.AttackedFor p m) : e.envelopeCounter.toNat = m / p := by
  rw [← h.ticks, Nat.mul_comm, Nat.mul_add_div (Nat.zero_lt_of_lt h.rateCounter), Nat.div_eq_of_lt h.rateCounter,
    Nat.add_zero]

theorem envelopeCounter_lt (h : e.AttackedFor p m) (hm : m < 255 * p) : e.envelopeCounter.toNat < 255 := by
  rw [h.envelopeCounter_eq]
  exact Nat.div_lt_of_lt_mul (Nat.mul_comm 255 p ▸ hm)

/-- Below 0xFF every match of the rate counter steps the envelope, for the exponential period is 1 in ATTACK (R122,
R123). -/
theorem rateStep (h : e.AttackedFor p m) (hm : m < 255 * p) : (rateStep e).AttackedFor p (m + 1) := by
  have hbelow := h.envelopeCounter_lt hm
  obtain ⟨hstate, hexp, rfl, hrate, rfl⟩ := h
  rcases rateStep_cases_of_lt hrate with ⟨hlt, hstep⟩ | ⟨-, hperiod, -⟩ | ⟨hmatch, -, hstep⟩
  · have hsucc := rateCounter_succ_toNat hrate
    rw [hstep]
    exact ⟨hstate, hexp, rfl, hsucc ▸ hlt, congrArg _ hsucc⟩
  · exact absurd (by rw [hexp, expIndex, hstate]; rfl) hperiod
  · have hsucc : (e.envelopeCounter + 1).toNat = e.envelopeCounter.toNat + 1 := by bv_omega
    have hup : Machine.rateStep e =
        { e with rateCounter := 0, expCounter := 0, envelopeCounter := e.envelopeCounter + 1 } := by
      rw [hstep, envelopeStep, hstate]
      exact if_pos hbelow
    rw [hup]
    refine ⟨hstate, rfl, rfl, Nat.zero_lt_of_lt hrate, ?_⟩
    calc (e.envelopeCounter + 1).toNat * ratePeriod (rateIndex e) + 0
      _ = e.envelopeCounter.toNat * ratePeriod (rateIndex e) + ratePeriod (rateIndex e) := by
        rw [hsucc, Nat.add_zero, Nat.succ_mul]
      _ = _ := by rw [Nat.add_assoc, hmatch]

/-- Short of 255 periods the state check finds the envelope below 0xFF (R125). -/
theorem envTick (h : e.AttackedFor p m) (hm : m + 1 < 255 * p) : (envTick e).AttackedFor p (m + 1) := by
  have hstep := h.rateStep (Nat.lt_of_succ_lt hm)
  have hne : (Machine.rateStep e).envelopeCounter ≠ 0xFF#8 := fun hfull =>
    (hstep.envelopeCounter_lt hm).ne (congrArg BitVec.toNat hfull)
  have hcheck : Machine.envTick e = Machine.rateStep e := by
    rw [Machine.envTick, stateCheck_eq, if_neg fun hfull => hne hfull.2]
  exact hcheck ▸ hstep

/-- The TICK that completes 255 periods brings 0xFF and ends the attack (R125, D11). -/
theorem envTick_of_last (h : e.AttackedFor p m) (hm : m + 1 = 255 * p) :
    (Machine.envTick e).envelopeCounter.toNat = 255 ∧ (Machine.envTick e).envState = .decaySustain := by
  have hstep := h.rateStep (Nat.lt_of_succ_le hm.le)
  have hfull : (Machine.envTick e).envelopeCounter.toNat = 255 := by
    rw [envTick_envelopeCounter, hstep.envelopeCounter_eq, hm, Nat.mul_div_cancel _ (Nat.zero_lt_of_lt h.rateCounter)]
  refine ⟨hfull, ?_⟩
  rw [envTick_envState, if_pos ⟨h.envState, BitVec.eq_of_toNat_eq hfull⟩]

theorem iterate_envTick (h : e.AttackedFor p 0) {n : Nat} (hn : n < 255 * p) :
    (Machine.envTick^[n] e).AttackedFor p n := by
  induction n with
  | zero => exact h
  | succ n ih =>
    rw [Function.iterate_succ_apply']
    exact (ih (Nat.lt_of_succ_lt hn)).envTick hn

end Env.AttackedFor

/-- Settles O31: short of 255 periods the attack has run for the TICKs counted, and the next TICK ends it. -/
theorem fullAttackTime : Obligations.FullAttackTime := by
  intro T s k hstate henvelope hrate hexp
  dsimp only
  have hindex : rateIndex (s.voice k).env = (s.voice k).env.attack := by rw [rateIndex, hstate]
  have hpos := (ratePeriod_pos (s.voice k).env.attack).1
  have hstart : (s.voice k).env.AttackedFor (ratePeriod (s.voice k).env.attack) 0 :=
    { envState := hstate
      expCounter := hexp
      period := by rw [hindex]
      rateCounter := by rw [hrate]; exact Nat.zero_lt_of_lt hpos
      ticks := by rw [henvelope, hrate]; exact Nat.zero_mul _ }
  obtain ⟨last, hlast⟩ := Nat.exists_eq_succ_of_ne_zero (n := 255 * ratePeriod (s.voice k).env.attack) (by omega)
  have hend := (hstart.iterate_envTick (n := last) (by omega)).envTick_of_last hlast.symm
  rw [← Function.iterate_succ_apply' envTick, ← hlast, ← clock_env T] at hend
  refine ⟨hend.1, hend.2, fun m hm => ?_⟩
  have h := hstart.iterate_envTick hm
  rw [← clock_env T] at h
  exact ⟨h.envelopeCounter_eq, h.envState⟩

/-! ## A full release (R123, R228) -/

/-- The rate periods a release takes from envelope value `c` to 0: one for each value, and for the values up to each
boundary of R118's table as many more as the exponential period there exceeds that of the segment above (R119). -/
def periodsToZero (c : Nat) : Nat :=
  c + min c 0x5D + 2 * min c 0x36 + 4 * min c 0x1A + 8 * min c 0x0E + 14 * min c 0x06

theorem expPeriod_expSegment (c : Byte) :
    expPeriod (expSegment c) =
      if c.toNat ≤ 0x06 then 30 else if c.toNat ≤ 0x0E then 16 else if c.toNat ≤ 0x1A then 8
      else if c.toNat ≤ 0x36 then 4 else if c.toNat ≤ 0x5D then 2 else 1 := by
  unfold expSegment
  split_ifs <;> rfl

/-- What ties `periodsToZero` to the model: the step from `c` to `c - 1` takes the exponential period of `c`'s
segment. -/
theorem periodsToZero_eq_of_pos {c : Byte} (h : 0 < c.toNat) :
    periodsToZero c.toNat = periodsToZero (c.toNat - 1) + expPeriod (expSegment c) := by
  rw [expPeriod_expSegment]
  unfold periodsToZero
  split_ifs <;> omega

/-- The rate periods left of a release: those from the envelope value to 0, less those the sub-counter has counted. -/
def Env.periodsLeft (e : Env) : Nat := periodsToZero e.envelopeCounter.toNat - e.expCounter.toNat

theorem expCounter_succ_toNat {e : Env} (h : e.Inv) : (e.expCounter + 1).toNat = e.expCounter.toNat + 1 := by
  obtain ⟨-, -, hbelow⟩ := h
  have := expPeriod_le (expIndex e)
  bv_omega

section
variable {e : Env} (hstate : e.envState = .release)
include hstate

theorem expIndex_of_release : expIndex e = expSegment e.envelopeCounter := by rw [expIndex, hstate]

theorem periodsLeft_pos_iff (hinv : e.Inv) : 0 < e.periodsLeft ↔ 0 < e.envelopeCounter.toNat := by
  obtain ⟨-, -, hbelow⟩ := hinv
  rw [expIndex_of_release hstate] at hbelow
  rcases Nat.eq_zero_or_pos e.envelopeCounter.toNat with hzero | hpos
  · simp [Env.periodsLeft, hzero, periodsToZero]
  · have := periodsToZero_eq_of_pos hpos
    unfold Env.periodsLeft
    omega

/-- A TICK of a release counts the rate counter, or restarts it with one rate period less to go; at 0 none is left. -/
theorem envTick_release_cases (hinv : e.Inv) (hrate : e.rateCounter.toNat < ratePeriod (rateIndex e)) :
    (e.rateCounter.toNat + 1 < ratePeriod (rateIndex e)
        ∧ (envTick e).rateCounter.toNat = e.rateCounter.toNat + 1 ∧ (envTick e).periodsLeft = e.periodsLeft)
    ∨ (e.rateCounter.toNat + 1 = ratePeriod (rateIndex e)
        ∧ (envTick e).rateCounter.toNat = 0 ∧ (envTick e).periodsLeft = e.periodsLeft - 1) := by
  unfold Env.periodsLeft
  rw [envTick_rateCounter, envTick_envelopeCounter, envTick_expCounter]
  have hsucc := expCounter_succ_toNat hinv
  rcases rateStep_cases_of_lt hrate with ⟨hlt, hstep⟩ | ⟨hmatch, -, hstep⟩ | ⟨hmatch, hperiod, hstep⟩
  · rw [hstep]
    exact .inl ⟨hlt, rateCounter_succ_toNat hrate, rfl⟩
  · rw [hstep]
    refine .inr ⟨hmatch, rfl, ?_⟩
    dsimp only
    rw [hsucc, Nat.sub_add_eq]
  · rw [hstep, envelopeStep_eq]
    refine .inr ⟨hmatch, rfl, ?_⟩
    rw [expIndex_of_release hstate] at hperiod
    simp only [envelopeStep_toNat, hstate]
    rcases Nat.eq_zero_or_pos e.envelopeCounter.toNat with hzero | hpos
    · simp [hzero, periodsToZero]
    · rw [periodsToZero_eq_of_pos hpos, ← hperiod, hsucc]
      change periodsToZero (e.envelopeCounter.toNat - 1) - 0 = _
      omega

end

/-- `e` is in a release with rate period `p` that brings it to 0 in `m` TICKs. -/
structure Env.ReleasedIn (e : Env) (p m : Nat) : Prop where
  envState : e.envState = .release
  inv : e.Inv
  period : ratePeriod (rateIndex e) = p
  rateCounter : e.rateCounter.toNat < p
  ticks : e.periodsLeft * p - e.rateCounter.toNat = m

namespace Env.ReleasedIn

variable {e : Env} {p m : Nat}

theorem pos_iff (h : e.ReleasedIn p m) : 0 < e.envelopeCounter.toNat ↔ 0 < m := by
  rw [← periodsLeft_pos_iff h.envState h.inv, ← h.ticks]
  have hrate := h.rateCounter
  refine ⟨fun hpos => ?_, fun hticks => Nat.pos_of_mul_pos_right (Nat.lt_of_lt_of_le hticks (Nat.sub_le _ _))⟩
  have := Nat.le_mul_of_pos_left p hpos
  omega

theorem envTick (h : e.ReleasedIn p m) : (envTick e).ReleasedIn p (m - 1) := by
  obtain ⟨hstate, hinv, rfl, hrate, rfl⟩ := h
  have hstate' : (Machine.envTick e).envState = .release := by simp [envTick_envState, hstate]
  have hperiod : rateIndex (Machine.envTick e) = rateIndex e := by simp [rateIndex, hstate, hstate']
  rcases envTick_release_cases hstate hinv hrate with ⟨hlt, hcount, hleft⟩ | ⟨hmatch, hcount, hleft⟩
  · exact ⟨hstate', envTick_inv hinv, by rw [hperiod], hcount ▸ hlt, by rw [hcount, hleft, Nat.sub_add_eq]⟩
  · refine ⟨hstate', envTick_inv hinv, by rw [hperiod], hcount ▸ Nat.zero_lt_of_lt hrate, ?_⟩
    rw [hcount, hleft, Nat.sub_one_mul, ← hmatch, Nat.sub_add_eq]
    rfl

theorem iterate_envTick (h : e.ReleasedIn p m) (n : Nat) : (Machine.envTick^[n] e).ReleasedIn p (m - n) := by
  induction n with
  | zero => exact h
  | succ n ih =>
    rw [Function.iterate_succ_apply', Nat.sub_add_eq]
    exact ih.envTick

end Env.ReleasedIn

/-- Settles O32: a release from 0xFF has 756 periods to go, each TICK takes one TICK off, and the envelope is above 0
exactly while some are left. -/
theorem fullReleaseTime : Obligations.FullReleaseTime := by
  intro T s k hstate henvelope hrate hexp
  dsimp only
  have hindex : rateIndex (s.voice k).env = (s.voice k).env.release := by rw [rateIndex, hstate]
  have hpos := (ratePeriod_pos (s.voice k).env.release).1
  have hstart : (s.voice k).env.ReleasedIn (ratePeriod (s.voice k).env.release)
      (756 * ratePeriod (s.voice k).env.release) :=
    { envState := hstate
      inv := Env.inv_of_expCounter_eq_zero (fun _ => hstate) (fun h => by simp [hstate] at h) hexp
      period := by rw [hindex]
      rateCounter := by rw [hrate]; exact Nat.zero_lt_of_lt hpos
      ticks := by
        rw [Env.periodsLeft, henvelope, hrate, hexp]
        rfl }
  have habove (m : Nat) := (hstart.iterate_envTick m).pos_iff
  simp only [← clock_env T] at habove
  exact ⟨fun m hm => (habove m).mpr (Nat.sub_pos_of_lt hm), fun m hm =>
    Nat.eq_zero_of_not_pos fun hpos => absurd ((habove m).mp hpos) (by omega)⟩

end Sys2Proof.Machine
end

section
/-! Proofs of the statements of no other family, first the cycle word: decoding and encoding as inverses (R57, R58,
R74). -/

namespace Sys2Proof.Machine

/-! ## Decoding and encoding -/

/-- Settles O3, by the kind of operation: the word of a write or a read carries its register's address, and that address
leads back to the register. -/
theorem decodeInvertsEncode : Obligations.DecodeInvertsEncode := by
  intro i _
  rcases instr_cases i with rfl | rfl | ⟨r, d, rfl⟩ | ⟨r, rfl⟩
  · rfl
  · rfl
  · rw [encode_decodeWr, wrWord, decode_wr, Reg.ofAddr_addr]
  · rw [encode_decodeRd, rdWord, decode_rd, Reg.ofAddr_addr]

/-- Settles O2: each word is evaluated. -/
theorem specCycleWordsDecode : Obligations.SpecCycleWordsDecode :=
  ⟨rfl, rfl, rfl, rfl, rfl, rfl, rfl, rfl, rfl, rfl, rfl, rfl, rfl⟩

/-- Masking a word to its upper byte clears the data byte and nothing else. -/
theorem append_mask (c : BitVec 3) (a : Addr) (d : Byte) : (c ++ a ++ d) &&& 0xFF00#16 = c ++ a ++ 0#8 := by
  have hmask : (0xFF00#16 : CycleWord) = 0xFF#8 ++ 0#8 := rfl
  rw [hmask, BitVec.and_append, BitVec.and_zero]
  exact congrArg (· ++ 0#8) BitVec.and_allOnes

/-- Settles O4, by R58's cases on the class of the word. -/
theorem encodeOfDecodeIsCanonical : Obligations.EncodeOfDecodeIsCanonical := by
  intro w
  change encode (decode w) =
    if resField w then 0x8000#16 else if csField w = false then 0x0000#16
    else if rwField w then w &&& 0xFF00#16 else w
  rw [← fields_append w]
  generalize classField w = c, addrField w = a, dataField w = d
  rw [resField_append, csField_append, rwField_append]
  rcases class_cases c with ⟨hres, -, -⟩ | ⟨hres, hcs, -, -⟩ | rfl | rfl
  · rw [decode_of_res hres, if_pos hres]
    rfl
  · rw [decode_of_not_cs hres hcs, if_neg (Bool.eq_false_iff.mp hres), if_pos hcs]
    rfl
  · rw [decode_wr, encode_decodeWr, Reg.addr_ofAddr]
    rfl
  · rw [decode_rd, encode_decodeRd, Reg.addr_ofAddr, append_mask]
    rfl

end Sys2Proof.Machine
end

section
/-! Proofs of the statements of no other family: the outputs of the noise register and of the combined waveforms (R96,
R100, R101), the TICK of an oscillator with hard sync (R88 to R94), and many accumulate steps at once (R104). -/

namespace Sys2Proof.Machine

/-! ## Noise and the empty selector (R96, R100) -/

section
variable (T : Tables) {s : State} {k : VoiceId}

theorem waveOut_of_none (hwave : (s.voice k).osc.waveform = 0b0000#4) : waveOut T s k = 0 := by
  rw [waveOut, oscOut, hwave]
  rfl

theorem waveOut_of_noise (hwave : (s.voice k).osc.waveform = 0b1000#4) :
    waveOut T s k = noiseOut (s.voice k).osc := by
  rw [waveOut, oscOut, hwave]
  rfl

end

/-- Settles O20: each of the twelve bits is one tap or clear, and above them there is none. -/
theorem noiseOutputTaps : Obligations.NoiseOutputTaps := by
  refine fun T s k => ⟨waveOut_of_none T, fun hwave i => ?_⟩
  rw [waveOut_of_noise T hwave]
  rcases Nat.lt_or_ge i 12 with hi | hi
  · simp only [noiseOut, BitVec.getLsbD_append, BitVec.getLsbD_ofBool]
    interval_cases i <;> simp
  · obtain ⟨j, rfl⟩ := Nat.exists_eq_add_of_le' hi
    exact BitVec.getLsbD_of_ge _ _ hi

/-! ## Combined waveforms (R101) -/

theorem entryOut_toNat (entry : Byte) : (entryOut entry).toNat = entry.toNat * 16 := by
  rw [entryOut, BitVec.toNat_append, BitVec.toNat_ofNat, Nat.or_zero, Nat.shiftLeft_eq]

/-- The pulse lets a value through while it is high. -/
theorem and_pulseOut_toNat (x : BitVec 12) (o : Osc) :
    (x &&& pulseOut o).toNat = if decide (o.pw.toNat ≤ o.acc.toNat / 2 ^ 12) then x.toNat else 0 := by
  have hones : x &&& 0xFFF#12 = x := BitVec.and_allOnes
  rw [pulseOut_eq]
  by_cases hhigh : o.pw.toNat ≤ o.acc.toNat / 2 ^ 12
  · rw [if_pos hhigh, hones, if_pos (decide_eq_true hhigh)]
  · rw [if_neg hhigh, BitVec.and_zero, if_neg (mt of_decide_eq_true hhigh)]
    rfl

theorem acc_middle_eq_ofNat (a : BitVec 24) : a.extractLsb' 11 12 = BitVec.ofNat 12 (a.toNat / 2 ^ 11 % 2 ^ 12) :=
  BitVec.eq_of_toNat_eq (by rw [acc_middle_toNat, BitVec.toNat_ofNat, Nat.mod_mod])

theorem acc_high_eq_ofNat (a : BitVec 24) : a.extractLsb' 12 12 = BitVec.ofNat 12 (a.toNat / 2 ^ 12) := by
  have := a.isLt
  exact BitVec.eq_of_toNat_eq (by rw [acc_high_toNat, BitVec.toNat_ofNat]; omega)

section
variable (T : Tables) {s : State} {k : VoiceId}

theorem waveOut_of_st (hwave : (s.voice k).osc.waveform = 0b0011#4) :
    waveOut T s k = entryOut (T.waveST s.straps.chipModel ((s.voice k).osc.acc.extractLsb' 11 12)) := by
  rw [waveOut, oscOut, hwave]
  rfl

theorem waveOut_of_pt (hwave : (s.voice k).osc.waveform = 0b0101#4) :
    waveOut T s k =
      entryOut (T.wavePT s.straps.chipModel ((s.voice k).osc.acc.extractLsb' 11 12)) &&& pulseOut (s.voice k).osc := by
  rw [waveOut, oscOut, hwave]
  rfl

theorem waveOut_of_ps (hwave : (s.voice k).osc.waveform = 0b0110#4) :
    waveOut T s k =
      entryOut (T.wavePS s.straps.chipModel ((s.voice k).osc.acc.extractLsb' 12 12)) &&& pulseOut (s.voice k).osc := by
  rw [waveOut, oscOut, hwave]
  rfl

theorem waveOut_of_pst (hwave : (s.voice k).osc.waveform = 0b0111#4) :
    waveOut T s k =
      entryOut (T.wavePST s.straps.chipModel ((s.voice k).osc.acc.extractLsb' 11 12)) &&& pulseOut (s.voice k).osc := by
  rw [waveOut, oscOut, hwave]
  rfl

end

/-- Settles O21: each selector looks its own table up, and those with the pulse bit mask the entry. -/
theorem combinedWaveformLookup : Obligations.CombinedWaveformLookup := by
  refine fun T s k => ⟨fun hwave => ?_, fun hwave => ?_, fun hwave => ?_, fun hwave => ?_⟩
  · rw [waveOut_of_st T hwave, entryOut_toNat, acc_middle_eq_ofNat]
  · rw [waveOut_of_pt T hwave, and_pulseOut_toNat, entryOut_toNat, acc_middle_eq_ofNat]
  · rw [waveOut_of_ps T hwave, and_pulseOut_toNat, entryOut_toNat, acc_high_eq_ofNat]
  · rw [waveOut_of_pst T hwave, and_pulseOut_toNat, entryOut_toNat, acc_middle_eq_ofNat]

/-! ## One TICK of an oscillator (R88, R92, R93, R94) -/

/-- The accumulator after phase A, TEST clear or set. -/
def Osc.advance (o : Osc) : Nat := if o.test then o.acc.toNat else (o.acc.toNat + o.freq.toNat) % 2 ^ 24

theorem phaseA_acc_toNat_eq_advance (o : Osc) : (phaseA o).acc.toNat = o.advance := by
  unfold Osc.advance
  cases htest : o.test
  · exact phaseA_acc_toNat htest
  · rw [phaseA_of_test htest]
    rfl

theorem phaseA_lfsr_eq_advance (o : Osc) :
    (phaseA o).lfsr =
      if o.acc.toNat / 2 ^ 19 % 2 = 0 ∧ o.advance / 2 ^ 19 % 2 = 1 then lfsrStep o.lfsr else o.lfsr := by
  rw [← phaseA_acc_toNat_eq_advance]
  cases htest : o.test
  · rw [phaseA_lfsr htest]
    exact if_congr (noiseClocks_iff _ _) rfl rfl
  · rw [phaseA_of_test htest]
    dsimp only
    rw [if_neg (by omega)]

/-- Under TEST the accumulator stands and the flag is clear (D12), so the flag is the advance's MSB rise in both cases. -/
theorem phaseA_msbRising_iff (o : Osc) :
    (phaseA o).msbRising = true ↔ o.acc.toNat < 2 ^ 23 ∧ 2 ^ 23 ≤ o.advance := by
  rw [← phaseA_acc_toNat_eq_advance]
  cases htest : o.test
  · rw [phaseA_msbRising htest]
    exact msbRises_iff _ _
  · rw [phaseA_of_test htest]
    dsimp only
    exact iff_of_false Bool.false_ne_true (by omega)

/-- The MSB rises exactly where the sum reaches 2^23 from below: `freq` is too small to wrap in the same step. -/
theorem phaseA_msbRising_iff_sum (o : Osc) :
    (phaseA o).msbRising = true ↔
      o.test = false ∧ o.acc.toNat < 2 ^ 23 ∧ 2 ^ 23 ≤ o.acc.toNat + o.freq.toNat := by
  have := o.freq.isLt
  rw [phaseA_msbRising_iff, Osc.advance]
  cases o.test
  · simp only [Bool.false_eq_true, if_false, true_and]
    omega
  · simp only [if_true, Bool.true_eq_false, false_and, iff_false]
    omega

theorem phaseB_acc_toNat (b : Bool) (o : Osc) :
    (phaseB b o).acc.toNat = if o.sync = true ∧ b = true then 0 else o.acc.toNat := by
  unfold phaseB
  cases o.sync <;> cases b <;> rfl

/-- Settles O16: phase A gives the advance, the noise step and the flag, and phase B clears the accumulator by the flag
phase A gave the source. -/
theorem oscillatorTick : Obligations.OscillatorTick := by
  intro T s k
  dsimp only
  rw [tick_voice]
  dsimp only
  refine ⟨?_, ?_, ?_⟩
  · rw [phaseB_acc_toNat, phaseA_sync, phaseA_acc_toNat_eq_advance]
    exact if_congr (and_congr_right' (phaseA_msbRising_iff_sum _)) rfl rfl
  · rw [phaseB_lfsr]
    exact phaseA_lfsr_eq_advance _
  · rw [phaseB_msbRising]
    exact phaseA_msbRising_iff _

/-! ## Many accumulate steps at once (R104) -/

/-- How often bit 19 rises while an unbounded counter goes from 0 up to `x`: at each odd multiple of 2^19. -/
def bit19Rises (x : Nat) : Nat := (x + 2 ^ 19) / 2 ^ 20

theorem bit19Rises_mono {x y : Nat} (h : x ≤ y) : bit19Rises x ≤ bit19Rises y :=
  Nat.div_le_div_right (Nat.add_le_add_right h _)

/-- R104 counts the rises with floored quotients of integers, which start at −1. -/
theorem bit19Rises_cast (x : Nat) : ((x : Int) - 2 ^ 19) / 2 ^ 20 = (bit19Rises x : Int) - 1 := by
  unfold bit19Rises
  omega

/-- One step of less than 2^16 raises bit 19 of the 24-bit accumulator once or not at all. -/
theorem bit19Rises_add {x f : Nat} (hf : f < 2 ^ 16) :
    bit19Rises (x + f) =
      bit19Rises x + if x % 2 ^ 24 / 2 ^ 19 % 2 = 0 ∧ (x + f) % 2 ^ 24 / 2 ^ 19 % 2 = 1 then 1 else 0 := by
  unfold bit19Rises
  split <;> omega

/-- After `n` steps of phase A: the register fields stand, the accumulator is the sum modulo 2^24, and the noise register
has stepped once for each rise of bit 19 on the way. -/
structure Osc.AccumulatedFor (o : Osc) (n : Nat) (r : Osc) : Prop where
  test : r.test = false
  freq : r.freq = o.freq
  acc : r.acc.toNat = (o.acc.toNat + n * o.freq.toNat) % 2 ^ 24
  lfsr : r.lfsr = lfsrStep^[bit19Rises (o.acc.toNat + n * o.freq.toNat) - bit19Rises o.acc.toNat] o.lfsr

theorem Osc.AccumulatedFor.phaseA {o r : Osc} {n : Nat} (h : o.AccumulatedFor n r) :
    o.AccumulatedFor (n + 1) (phaseA r) := by
  obtain ⟨htest, hfreq, hacc, hlfsr⟩ := h
  have hsum : o.acc.toNat + (n + 1) * o.freq.toNat = o.acc.toNat + n * o.freq.toNat + o.freq.toNat := by
    rw [Nat.succ_mul, Nat.add_assoc]
  have hacc' : (Machine.phaseA r).acc.toNat = (o.acc.toNat + (n + 1) * o.freq.toNat) % 2 ^ 24 := by
    rw [phaseA_acc_toNat htest, hacc, hfreq, hsum, Nat.mod_add_mod]
  refine ⟨(phaseA_test r).trans htest, (phaseA_freq r).trans hfreq, hacc', ?_⟩
  have hmono : bit19Rises o.acc.toNat ≤ bit19Rises (o.acc.toNat + n * o.freq.toNat) :=
    bit19Rises_mono (Nat.le_add_right _ _)
  rw [phaseA_lfsr htest, hlfsr, if_congr (noiseClocks_iff _ _) rfl rfl, hacc, hacc', hsum,
    bit19Rises_add o.freq.isLt]
  split
  · rw [Nat.sub_add_comm hmono, Function.iterate_succ_apply']
  · rw [Nat.add_zero]

theorem Osc.accumulatedFor_iterate {o : Osc} (htest : o.test = false) (n : Nat) :
    o.AccumulatedFor n (Machine.phaseA^[n] o) := by
  induction n with
  | zero =>
    refine ⟨htest, rfl, ?_, ?_⟩
    · rw [Nat.zero_mul, Nat.add_zero, Nat.mod_eq_of_lt o.acc.isLt]
      rfl
    · rw [Nat.zero_mul, Nat.add_zero, Nat.sub_self]
      rfl
  | succ n ih =>
    rw [Function.iterate_succ_apply']
    exact ih.phaseA

/-- Settles O17, by induction on the steps; R104's difference of floored quotients is the number of rises. -/
theorem bulkAccumulation : Obligations.BulkAccumulation := by
  intro o n htest
  dsimp only
  have hmono : bit19Rises o.acc.toNat ≤ bit19Rises (o.acc.toNat + n * o.freq.toNat) :=
    bit19Rises_mono (Nat.le_add_right _ _)
  have hcount :
      ((o.acc.toNat : Int) + n * o.freq.toNat - 2 ^ 19) / 2 ^ 20 - ((o.acc.toNat : Int) - 2 ^ 19) / 2 ^ 20
        = ((bit19Rises (o.acc.toNat + n * o.freq.toNat) - bit19Rises o.acc.toNat : Nat) : Int) := by
    rw [bit19Rises_cast, ← Nat.cast_mul, ← Nat.cast_add, bit19Rises_cast]
    omega
  obtain ⟨-, -, hacc, hlfsr⟩ := Osc.accumulatedFor_iterate htest n
  rw [hcount, Int.toNat_natCast]
  exact ⟨hacc, Int.natCast_nonneg _, hlfsr⟩

end Sys2Proof.Machine
end

section
/-! Proofs of the statements of no other family: the period of the noise sequence (R90, V-LFSR-3). The step is additive
for the exclusive or, so its values on the 23 one-bit words determine it, and squaring that table gives the step iterated
2, 4, 8, … times. -/

namespace Sys2Proof.Machine

/-! ## A word as the exclusive or of its bits -/

/-- The exclusive or of the columns at the set bits of `x`, bit 0 first. -/
def applyColumns : List (BitVec 23) → Nat → BitVec 23
  | [], _ => 0
  | c :: cs, x => (if x % 2 = 1 then c else 0) ^^^ applyColumns cs (x / 2)

/-- The one-bit words of the noise register. -/
def unitWords : List (BitVec 23) := (List.range 23).map (BitVec.twoPow 23)

theorem ite_twoPow_getLsbD (x k : Nat) {j : Nat} (hj : j < 23) :
    (if x % 2 = 1 then BitVec.twoPow 23 k else 0).getLsbD j = (decide (k = j) && x.testBit 0) := by
  rw [Nat.testBit_zero]
  by_cases hx : x % 2 = 1
  · rw [if_pos hx, BitVec.getLsbD_twoPow, decide_eq_true hx, Bool.and_true]
    by_cases hkj : k = j
    · simp [hkj, hj]
    · simp [hkj]
  · rw [if_neg hx, decide_eq_false hx, Bool.and_false]
    exact BitVec.getLsbD_zero

/-- The one-bit words from bit `k` on put the bits of `x` in place from there. -/
theorem applyColumns_twoPow_getLsbD (m k x : Nat) {j : Nat} (hj : j < 23) :
    (applyColumns ((List.range' k m).map (BitVec.twoPow 23)) x).getLsbD j =
      (decide (k ≤ j ∧ j < k + m) && x.testBit (j - k)) := by
  induction m generalizing k x with
  | zero =>
    rw [decide_eq_false (by omega)]
    exact BitVec.getLsbD_zero
  | succ m ih =>
    rw [List.range'_succ, List.map_cons, applyColumns, BitVec.getLsbD_xor, ih, ite_twoPow_getLsbD x k hj]
    rcases Nat.lt_trichotomy k j with hlt | rfl | hlt
    · have hshift : j - k = j - (k + 1) + 1 := by omega
      have hrange : (k + 1 ≤ j ∧ j < k + 1 + m) ↔ (k ≤ j ∧ j < k + (m + 1)) := by omega
      rw [hshift, Nat.testBit_succ, decide_eq_false hlt.ne, Bool.false_and, Bool.false_xor, decide_eq_decide.mpr hrange]
    · simp
    · have hlow : ¬(k + 1 ≤ j ∧ j < k + 1 + m) := by omega
      have hlow' : ¬(k ≤ j ∧ j < k + (m + 1)) := by omega
      rw [decide_eq_false hlt.ne', decide_eq_false hlow, decide_eq_false hlow', Bool.false_and, Bool.false_and,
        Bool.false_and, Bool.false_xor]

theorem applyColumns_unitWords (x : BitVec 23) : applyColumns unitWords x.toNat = x := by
  refine BitVec.eq_of_getLsbD_eq fun j hj => ?_
  rw [unitWords, List.range_eq_range', applyColumns_twoPow_getLsbD 23 0 _ hj, decide_eq_true (by omega)]
  rfl

/-! ## Additive maps by their columns -/

/-- `f` is additive for the exclusive or of words. -/
def XorAdditive (f : BitVec 23 → BitVec 23) : Prop := ∀ x y, f (x ^^^ y) = f x ^^^ f y

/-- The values of `f` on the one-bit words. -/
def columns (f : BitVec 23 → BitVec 23) : List (BitVec 23) := unitWords.map f

/-- The table of `f ∘ f` from that of `f`. -/
def squareColumns (m : List (BitVec 23)) : List (BitVec 23) := m.map fun c => applyColumns m c.toNat

/-- `f` iterated `n` times on `v`, by the lowest `k` bits of `n` from bit 0 up, from the table of `f`. The test for
a fixed point makes an evaluation settle each value before it goes on. -/
def iterateColumns : Nat → List (BitVec 23) → Nat → BitVec 23 → BitVec 23
  | 0, _, _, v => v
  | k + 1, m, n, v =>
    if applyColumns m v.toNat = v then v
    else iterateColumns k (squareColumns m) (n / 2) (if n % 2 = 1 then applyColumns m v.toNat else v)

namespace XorAdditive

variable {f : BitVec 23 → BitVec 23}

theorem zero (hf : XorAdditive f) : f 0 = 0 := by
  have h := hf 0 0
  rwa [BitVec.xor_self, BitVec.xor_self] at h

theorem comp_self (hf : XorAdditive f) : XorAdditive (f ∘ f) := fun x y =>
  (congrArg f (hf x y)).trans (hf (f x) (f y))

theorem applyColumns_map (hf : XorAdditive f) (cs : List (BitVec 23)) (x : Nat) :
    applyColumns (cs.map f) x = f (applyColumns cs x) := by
  induction cs generalizing x with
  | nil => exact hf.zero.symm
  | cons c cs ih =>
    rw [List.map_cons, applyColumns, applyColumns, hf, ih, apply_ite f, hf.zero]

/-- An additive map is determined by its columns. -/
theorem applyColumns_columns (hf : XorAdditive f) (x : BitVec 23) : applyColumns (columns f) x.toNat = f x := by
  rw [columns, hf.applyColumns_map, applyColumns_unitWords]

theorem squareColumns_columns (hf : XorAdditive f) : squareColumns (columns f) = columns (f ∘ f) := by
  simp only [squareColumns, hf.applyColumns_columns]
  rw [columns, columns, List.map_map]

theorem iterateColumns_columns (hf : XorAdditive f) {k n : Nat} (hn : n < 2 ^ k) (v : BitVec 23) :
    iterateColumns k (columns f) n v = f^[n] v := by
  induction k generalizing f n v with
  | zero =>
    rw [Nat.lt_one_iff.mp hn]
    rfl
  | succ k ih =>
    have hbit : (if n % 2 = 1 then f v else v) = f^[n % 2] v := by
      rcases Nat.mod_two_eq_zero_or_one n with h | h <;> rw [h] <;> rfl
    rw [iterateColumns, hf.squareColumns_columns, hf.applyColumns_columns, hbit, ih hf.comp_self (by omega)]
    split
    next hfixed => exact (Function.iterate_fixed hfixed n).symm
    calc (f ∘ f)^[n / 2] (f^[n % 2] v)
      _ = f^[2 * (n / 2) + n % 2] v := by rw [Function.iterate_add_apply, Function.iterate_mul]; rfl
      _ = f^[n] v := by rw [Nat.div_add_mod]

end XorAdditive

/-! ## The period of the noise sequence -/

theorem lfsrStep_getLsbD_zero (l : BitVec 23) : (lfsrStep l).getLsbD 0 = (l.getLsbD 22 ^^ l.getLsbD 17) := by
  simp [lfsrStep]

theorem lfsrStep_getLsbD_succ (l : BitVec 23) {j : Nat} (hj : j + 1 < 23) :
    (lfsrStep l).getLsbD (j + 1) = l.getLsbD j := by
  have hshift : (lfsrStep l).getLsbD (j + 1) = (decide (j + 1 < 23) && l.getLsbD j) := by simp [lfsrStep]
  rw [hshift, decide_eq_true hj, Bool.true_and]

theorem lfsrStep_xorAdditive : XorAdditive lfsrStep := by
  intro x y
  refine BitVec.eq_of_getLsbD_eq fun j hj => ?_
  rw [BitVec.getLsbD_xor]
  rcases j with _ | j
  · simp only [lfsrStep_getLsbD_zero, BitVec.getLsbD_xor, Bool.xor_assoc, Bool.xor_left_comm]
  · simp only [lfsrStep_getLsbD_succ _ hj, BitVec.getLsbD_xor]

/-- A point that returns after `p * q` steps, for primes `p` and `q`, and neither after `p` nor after `q`, has that
period. -/
theorem minimalPeriod_eq_mul_of_primes {α : Type} {f : α → α} {x : α} {p q : Nat} (hp : p.Prime) (hq : q.Prime)
    (h : Function.IsPeriodicPt f (p * q) x) (hnp : ¬Function.IsPeriodicPt f p x) (hnq : ¬Function.IsPeriodicPt f q x) :
    Function.minimalPeriod f x = p * q := by
  have hmin := Function.isPeriodicPt_minimalPeriod f x
  obtain ⟨a, b, ha, hb, hab⟩ := Nat.dvd_mul.mp h.minimalPeriod_dvd
  rcases (Nat.dvd_prime hp).mp ha with rfl | rfl
  · exact absurd (hmin.trans_dvd (by rwa [← hab, Nat.one_mul])) hnq
  · rcases (Nat.dvd_prime hq).mp hb with rfl | rfl
    · exact absurd (hmin.trans_dvd (by rw [← hab, Nat.mul_one])) hnp
    · exact hab.symm

theorem lfsrSeed_isPeriodicPt_iff {k n : Nat} (hn : n < 2 ^ k) :
    Function.IsPeriodicPt lfsrStep n lfsrSeed ↔ iterateColumns k (columns lfsrStep) n lfsrSeed = lfsrSeed := by
  rw [lfsrStep_xorAdditive.iterateColumns_columns hn]
  exact Iff.rfl

theorem lfsrSeed_isPeriodicPt : Function.IsPeriodicPt lfsrStep 8388607 lfsrSeed :=
  (lfsrSeed_isPeriodicPt_iff (k := 23) (by decide)).mpr (by decide)

theorem lfsrSeed_not_isPeriodicPt_47 : ¬Function.IsPeriodicPt lfsrStep 47 lfsrSeed :=
  mt (lfsrSeed_isPeriodicPt_iff (k := 6) (by decide)).mp (by decide)

theorem lfsrSeed_not_isPeriodicPt_178481 : ¬Function.IsPeriodicPt lfsrStep 178481 lfsrSeed :=
  mt (lfsrSeed_isPeriodicPt_iff (k := 18) (by decide)).mp (by decide)

/-- 2^23 − 1 is the product of two primes, after neither of which the sequence returns. -/
theorem lfsrSeed_minimalPeriod : Function.minimalPeriod lfsrStep lfsrSeed = 8388607 := by
  have hfactors : 8388607 = 47 * 178481 := by norm_num
  rw [hfactors]
  exact minimalPeriod_eq_mul_of_primes (by norm_num) (by norm_num) (hfactors ▸ lfsrSeed_isPeriodicPt)
    lfsrSeed_not_isPeriodicPt_47 lfsrSeed_not_isPeriodicPt_178481

/-- Settles O15: the seed returns after its minimal period and never before. -/
theorem noiseSequencePeriod : Obligations.NoiseSequencePeriod := by
  refine ⟨lfsrSeed_isPeriodicPt, fun n hpos hn hreturn => ?_⟩
  have hle := Function.IsPeriodicPt.minimalPeriod_le (f := lfsrStep) (x := lfsrSeed) hpos hreturn
  rw [lfsrSeed_minimalPeriod] at hle
  omega

end Sys2Proof.Machine
end

section
/-! Proofs of the statements of no other family: the constant tables of the envelope generator (R117 to R120), its TICK
part by part (R121 to R125), the ADSR delay bug (R124) and the transitions of the ADSR state over all operations
(R113). -/

namespace Sys2Proof.Machine

/-! ## The constant tables (R117 to R120) -/

/-- The segment of an envelope value: the value is above its floor, segment 5 aside, and not above the floor of any
segment before it (R118, D10). -/
theorem expSegment_spec (c : Byte) :
    (expSegment c = 5 ∨ expLevel (expSegment c) < c.toNat) ∧ ∀ h : Fin 6, h < expSegment c → c.toNat ≤ expLevel h := by
  unfold expSegment
  split_ifs
  all_goals
    simp [expLevel, Fin.forall_fin_succ]
    omega

/-- Settles O24: the tables are evaluated, and of two segments that both meet the condition on `c` neither can lie before
the other. -/
theorem envelopeTables : Obligations.EnvelopeTables := by
  refine ⟨by decide, by decide, by decide, by decide, fun c g => ⟨?_, fun ⟨habove, hbelow⟩ => ?_⟩⟩
  · rintro rfl
    exact expSegment_spec c
  · obtain ⟨habove', hbelow'⟩ := expSegment_spec c
    rcases lt_trichotomy (expSegment c) g with hlt | heq | hlt
    · have := hbelow _ hlt
      rcases habove' with hlast | habove' <;> omega
    · exact heq
    · have := hbelow' _ hlt
      rcases habove with hlast | habove <;> omega

/-! ## The envelope part of a TICK (R121 to R125) -/

theorem rateMatches_iff (e : Env) : rateMatches e = true ↔ e.rateCounter.toNat = ratePeriod (rateIndex e) - 1 := by
  have := (ratePeriod_pos (rateIndex e)).1
  rw [rateMatches, beq_iff_eq]
  omega

theorem rateStep_of_no_match {e : Env} (h : e.rateCounter.toNat ≠ ratePeriod (rateIndex e) - 1) :
    rateStep e = { e with rateCounter := e.rateCounter + 1 } :=
  if_neg (mt (rateMatches_iff e).mp h)

/-- The cases of `rateStep_cases` when the rate counter matches: the sub-counter counts, or it restarts and the envelope
steps (R122). -/
theorem rateStep_of_match {e : Env} (h : e.rateCounter.toNat = ratePeriod (rateIndex e) - 1) :
    rateStep e =
      if (e.expCounter + 1).toNat = expPeriod (expIndex e) then
        envelopeStep { e with rateCounter := 0, expCounter := 0 }
      else { e with rateCounter := 0, expCounter := e.expCounter + 1 } :=
  if_pos ((rateMatches_iff e).mpr h)

theorem rateStep_rateCounter_of_match {e : Env} (h : e.rateCounter.toNat = ratePeriod (rateIndex e) - 1) :
    (rateStep e).rateCounter = 0 := by
  rw [rateStep_of_match h, envelopeStep_eq]
  split <;> rfl

theorem tick_env (T : Tables) (s : State) (k : VoiceId) : ((tick T s).voice k).env = envTick (s.voice k).env := by
  rw [tick_voice]

/-- Settles O25, by whether the rate counter matches. -/
theorem rateDividerTick : Obligations.RateDividerTick := by
  intro T s k
  dsimp only
  rw [tick_env, envTick_rateCounter, envTick_expCounter, envTick_envelopeCounter]
  refine ⟨rateStep_rateCounter_of_match, fun hno => ?_⟩
  rw [rateStep_of_no_match hno]
  exact ⟨BitVec.toNat_add _ _, rfl, rfl⟩

/-- The exponential period in force: 1 in ATTACK, that of the envelope's segment otherwise (R122). -/
theorem expPeriod_expIndex (e : Env) :
    expPeriod (expIndex e) = if e.envState = .attack then 1 else expPeriod (expSegment e.envelopeCounter) := by
  unfold expIndex
  cases e.envState <;> rfl

/-- Settles O26, by whether the sub-counter reaches its period; the envelope step is that of the state. -/
theorem envelopeTickOnRateMatch : Obligations.EnvelopeTickOnRateMatch := by
  intro T s k
  dsimp only
  rw [tick_env, envTick_expCounter, envTick_envelopeCounter, ← expPeriod_expSegment, ← expPeriod_expIndex]
  intro hmatch
  rw [rateStep_of_match hmatch]
  have hsucc : ((s.voice k).env.expCounter + 1).toNat = ((s.voice k).env.expCounter.toNat + 1) % 32 :=
    BitVec.toNat_add _ _
  refine ⟨fun hne => ?_, fun heq => ?_⟩
  · rw [if_neg (hsucc ▸ hne)]
    exact ⟨hsucc, rfl⟩
  · rw [if_pos (hsucc.trans heq), envelopeStep_toNat]
    refine ⟨by rw [envelopeStep_eq], fun hstate => ?_, fun hstate => ?_, fun hstate => ?_⟩
    all_goals rw [hstate]

theorem toNat_eq_full_iff (c : Byte) : c.toNat = 0xFF ↔ c = 0xFF#8 := BitVec.toNat_inj (y := 0xFF#8)

/-- Settles O27: the state check comes last in a TICK and reads the envelope the TICK leaves. -/
theorem attackEndsAtFullLevel : Obligations.AttackEndsAtFullLevel := by
  intro T s k
  dsimp only
  rw [tick_env, envTick_envState]
  exact if_congr (and_congr_right' (toNat_eq_full_iff _).symm) rfl rfl

/-! ## The ADSR delay bug (R124, R127) -/

/-- Without a match, and outside R127's exception, a TICK counts the rate counter and does nothing else. -/
theorem envTick_of_no_match {e : Env} (hno : e.rateCounter.toNat ≠ ratePeriod (rateIndex e) - 1)
    (hfull : ¬(e.envState = .attack ∧ e.envelopeCounter = 0xFF#8)) :
    envTick e = { e with rateCounter := e.rateCounter + 1 } := by
  rw [envTick, rateStep_of_no_match hno, stateCheck_eq, if_neg hfull]

/-- The envelope generator whose rate counter has counted `n` TICKs modulo 2^15, and nothing else of which has moved. -/
def Env.countedFor (e : Env) (n : Nat) : Env := { e with rateCounter := BitVec.ofNat 15 (e.rateCounter.toNat + n) }

theorem Env.countedFor_rateCounter_toNat (e : Env) (n : Nat) :
    (e.countedFor n).rateCounter.toNat = (e.rateCounter.toNat + n) % 2 ^ 15 :=
  BitVec.toNat_ofNat _ _

theorem Env.countedFor_zero (e : Env) : e.countedFor 0 = e := by simp [Env.countedFor]

theorem Env.countedFor_succ (e : Env) (n : Nat) :
    e.countedFor (n + 1) = { e.countedFor n with rateCounter := (e.countedFor n).rateCounter + 1 } := by
  simp only [Env.countedFor, ← Nat.add_assoc, BitVec.ofNat_add]
  rfl

/-- `n` TICKs none of which finds a match count the rate counter only. -/
theorem iterate_envTick_of_no_match {e : Env} (hfull : ¬(e.envState = .attack ∧ e.envelopeCounter = 0xFF#8)) {n : Nat}
    (hno : ∀ m, m < n → (e.rateCounter.toNat + m) % 2 ^ 15 ≠ ratePeriod (rateIndex e) - 1) :
    envTick^[n] e = e.countedFor n := by
  induction n with
  | zero => exact e.countedFor_zero.symm
  | succ n ih =>
    rw [Function.iterate_succ_apply', ih fun m hm => hno m (Nat.lt_succ_of_lt hm), Env.countedFor_succ]
    have hlast : (e.countedFor n).rateCounter.toNat ≠ ratePeriod (rateIndex e) - 1 :=
      e.countedFor_rateCounter_toNat n ▸ hno n (Nat.lt_succ_self n)
    exact envTick_of_no_match hlast hfull

/-- R124's formula: `n` TICKs from rate counter `r` to the first restart, with period `p`. -/
def ticksToRestart (r p : Nat) : Nat := if r ≤ p - 1 then p - r else (0x8000 - r) + p

section
variable {r p : Nat} (hr : r < 2 ^ 15) (hp : 0 < p ∧ p ≤ 2 ^ 15)
include hr hp

/-- Before TICK `ticksToRestart r p` the counter has not come to `p − 1`: it counts up to it, or up to 2^15 and on from 0
(R124). -/
theorem ticksToRestart_no_match {m : Nat} (hm : m + 1 < ticksToRestart r p) : (r + m) % 2 ^ 15 ≠ p - 1 := by
  obtain ⟨hpos, hmax⟩ := hp
  unfold ticksToRestart at hm
  split at hm <;> omega

theorem ticksToRestart_match : 0 < ticksToRestart r p ∧ (r + (ticksToRestart r p - 1)) % 2 ^ 15 = p - 1 := by
  obtain ⟨hpos, hmax⟩ := hp
  unfold ticksToRestart
  split <;> omega

end

/-- Settles O30: no TICK before the one numbered `n` finds a match, and that one does. -/
theorem adsrDelayBug : Obligations.AdsrDelayBug := by
  intro T s k
  simp only [clock_env]
  generalize (s.voice k).env = e
  intro hfull
  rw [toNat_eq_full_iff] at hfull
  have hp : 0 < ratePeriod (rateIndex e) ∧ ratePeriod (rateIndex e) ≤ 2 ^ 15 := by
    have := ratePeriod_pos (rateIndex e)
    omega
  obtain ⟨n, hn⟩ : ∃ n, ticksToRestart e.rateCounter.toNat (ratePeriod (rateIndex e)) = n := ⟨_, rfl⟩
  obtain ⟨hpos, hmatch⟩ := ticksToRestart_match e.rateCounter.isLt hp
  rw [hn] at hpos hmatch
  have hiter (m : Nat) (hm : m < n) : envTick^[m] e = e.countedFor m :=
    iterate_envTick_of_no_match hfull fun j hj => ticksToRestart_no_match e.rateCounter.isLt hp (by omega)
  rw [ticksToRestart] at hn
  rw [hn]
  refine ⟨fun m hm => ?_, ?_, ?_⟩
  · rw [hiter m hm]
    exact ⟨e.countedFor_rateCounter_toNat m, rfl, rfl⟩
  · rw [hiter (n - 1) (by omega)]
    exact (e.countedFor_rateCounter_toNat _).trans hmatch
  · obtain ⟨m, rfl⟩ := Nat.exists_eq_succ_of_ne_zero hpos.ne'
    rw [Function.iterate_succ_apply', hiter m (Nat.lt_succ_self m), envTick_rateCounter,
      rateStep_rateCounter_of_match ((e.countedFor_rateCounter_toNat m).trans hmatch)]
    rfl

/-! ## The transitions of the ADSR state (R113) -/

/-- `e'` agrees with `e` on what the ADSR state machine is made of: the gate, the state and the level it watches. -/
structure Env.SameAdsr (e e' : Env) : Prop where
  gate : e'.gate = e.gate
  envState : e'.envState = e.envState
  envelopeCounter : e'.envelopeCounter = e.envelopeCounter

theorem Env.SameAdsr.of_eq {e e' : Env} (h : e' = e) : e.SameAdsr e' := h ▸ ⟨rfl, rfl, rfl⟩

/-- A register write reaches a voice's ADSR state only as the CONTROL write of that voice. -/
theorem writeReg_env_cases (r : Reg) (d : Byte) (s : State) (k : VoiceId) :
    (s.voice k).env.SameAdsr ((writeReg r.addr d s).voice k).env
    ∨ (decodeWr r d = k.wrControl d ∧ ((writeReg r.addr d s).voice k).env = envControl d (s.voice k).env) := by
  rcases writeReg_cases r d s with ⟨j, f, h, -⟩ | ⟨j, h, hcontrol⟩ | ⟨j, g, h, hg⟩ | ⟨f, h, -⟩ | h <;> rw [h]
  case inl => exact .inl (.of_eq (by by_cases hkj : k = j <;> simp [hkj]))
  case inr.inl =>
    by_cases hkj : k = j
    · subst hkj
      exact .inr ⟨hcontrol, by rw [writeControl_voice_self, State.voice_update, Voice.control]⟩
    · exact .inl (.of_eq (by rw [writeControl_voice_of_ne hkj, State.voice_update]))
  case inr.inr.inl =>
    by_cases hkj : k = j
    · subst hkj
      obtain ⟨hgate, hstate, -, -, henvelope⟩ := hg (s.voice k).env
      rw [State.updEnv_voice_self, State.voice_update]
      exact .inl ⟨hgate, hstate, henvelope⟩
    · exact .inl (.of_eq (by simp [hkj]))
  case inr.inr.inr.inl => exact .inl (.of_eq (by rw [State.voice_update]))
  case inr.inr.inr.inr => exact .inl (.of_eq (by rw [State.voice_update]))

/-- Every operation is RESET, leaves a voice's ADSR state as the TICK made it, or is the CONTROL write of that voice. -/
theorem exec_env_cases {i : Instr} {s t : State} (h : exec i s = .next t) (k : VoiceId) :
    (i = .reset ∧ (t.voice k).env = Env.atReset)
    ∨ (envTick (s.voice k).env).SameAdsr (t.voice k).env
    ∨ ∃ d, i = k.wrControl d ∧ (t.voice k).env = envControl d (envTick (s.voice k).env) := by
  rw [← tick_env Config.tables]
  rcases exec_inversion h with ⟨hi, rfl⟩ | ⟨-, rfl⟩ | ⟨r, d, rfl, rfl⟩ | ⟨r, -, rfl⟩
  · exact .inl ⟨hi, by rw [resetCycle_voice]; rfl⟩
  · exact .inr (.inl (.of_eq (by rw [idleCycle, State.voice_update])))
  · rw [State.voice_update]
    exact .inr ((writeReg_env_cases r d _ k).imp_right fun ⟨hi, henv⟩ => ⟨d, hi, henv⟩)
  · exact .inr (.inl (.of_eq (by rw [State.voice_update])))

/-- A TICK changes the state only where it ends an attack (R125). -/
theorem envTick_attack_ends {e : Env} (h : (envTick e).envState ≠ e.envState) :
    e.envState = .attack ∧ (envTick e).envState = .decaySustain ∧ (envTick e).envelopeCounter.toNat = 0xFF := by
  by_cases hfull : e.envState = .attack ∧ (envTick e).envelopeCounter = 0xFF#8
  · exact ⟨hfull.1, by rw [envTick_envState, if_pos hfull], (toNat_eq_full_iff _).mpr hfull.2⟩
  · exact absurd (by rw [envTick_envState, if_neg hfull]) h

section
variable (d : Byte) (e : Env)

theorem envControl_of_gate_rises (hold : e.gate = false) (hnew : gateBit d = true) :
    envControl d e = { e with gate := true, envState := .attack, expCounter := 0 } := by
  simp [envControl, rises, hold, hnew]

theorem envControl_of_gate_falls (hold : e.gate = true) (hnew : gateBit d = false) :
    envControl d e = { e with gate := false, envState := .release, expCounter := 0 } := by
  simp [envControl, rises, falls, hold, hnew]

theorem envControl_of_gate_stays (hsame : e.gate = gateBit d) : envControl d e = e := by
  simp [envControl, rises, falls, hsame]

end

/-- The gate part of a CONTROL write, by the two gate bits (R114, R115, R116). -/
theorem envControl_adsr_cases (d : Byte) (e : Env) :
    (e.gate = false ∧ gateBit d = true ∧ (envControl d e).gate = true ∧ (envControl d e).envState = .attack)
    ∨ (e.gate = true ∧ gateBit d = false ∧ (envControl d e).gate = false ∧ (envControl d e).envState = .release)
    ∨ envControl d e = e := by
  cases hold : e.gate <;> cases hnew : gateBit d
  case false.true =>
    rw [envControl_of_gate_rises d e hold hnew]
    exact .inl ⟨rfl, rfl, rfl, rfl⟩
  case true.false =>
    rw [envControl_of_gate_falls d e hold hnew]
    exact .inr (.inl ⟨rfl, rfl, rfl, rfl⟩)
  all_goals exact .inr (.inr (envControl_of_gate_stays d e (hold.trans hnew.symm)))

/-- Settles O33, by what the operation does to the voice's ADSR state: RESET's values, the TICK alone, or a CONTROL write
after the TICK, whose gate rises, falls or stays. -/
theorem adsrTransitions : Obligations.AdsrTransitions := by
  intro i s t k h
  dsimp only
  rcases exec_env_cases h k with ⟨hi, henv⟩ | hsame | ⟨d, hi, henv⟩
  · rw [henv]
    exact ⟨fun _ => .inr (.inr (.inr ⟨rfl, hi⟩)), fun _ => .inr hi⟩
  · rw [hsame.gate, hsame.envState, hsame.envelopeCounter, envTick_gate]
    exact ⟨fun hne => .inr (.inl (envTick_attack_ends hne)), fun hne => absurd rfl hne⟩
  · rw [henv]
    rcases envControl_adsr_cases d (envTick (s.voice k).env) with
      ⟨hold, hnew, hgate, hstate⟩ | ⟨hold, hnew, hgate, hstate⟩ | heq
    · rw [envTick_gate] at hold
      exact ⟨fun _ => .inl ⟨hstate, hold, d, hnew, hi⟩, fun _ => .inl ⟨d, hnew.trans hgate.symm, hi⟩⟩
    · rw [envTick_gate] at hold
      exact ⟨fun _ => .inr (.inr (.inl ⟨hstate, hold, d, hnew, hi⟩)), fun _ => .inl ⟨d, hnew.trans hgate.symm, hi⟩⟩
    · rw [heq, envTick_gate]
      exact ⟨fun hne => .inr (.inl (envTick_attack_ends hne)), fun hne => absurd rfl hne⟩

end Sys2Proof.Machine
end

section
/-! Proofs of the statements of no other family: the register writes of a voice block and of the filter, at the source's
level (R46) and as operations (R175). -/

namespace Sys2Proof.Machine

/-! ## Writes to one voice -/

theorem onlyVoice_setVoice (k : VoiceId) (v : Voice) (d : Byte) (s : State) :
    OnlyVoice k s ((s.withBus d).setVoice k v) :=
  ⟨fun j hj => by simp [hj], by simp, by simp, by simp, by simp, by simp⟩

theorem writeControl_eq_setVoice (k : VoiceId) (d : Byte) (s : State) :
    writeControl k d s = s.setVoice k ((s.voice k).control d) := by
  cases k <;> rfl

/-- An operation whose rule replaces voice `k` completes: the rule applies to what the TICK left of the voice, `bus_value`
is the byte, DATA_OUT is not valid, and nothing else changes. -/
theorem exec_voiceRule {i : Instr} {k : VoiceId} {d : Byte} {s : State} {rule : State → State} {g : Voice → Voice}
    (hexec : exec i s = .next (wrCycle Config.tables rule d s)) (hrule : ∀ u, rule u = u.setVoice k (g (u.voice k))) :
    ∃ t, exec i s = .next t ∧ t.voice k = g ((tick Config.tables s).voice k) ∧ t.busValue = d ∧ t.dataOut = none
      ∧ OnlyVoice k (tick Config.tables s) t := by
  refine ⟨_, hexec, ?_, ?_, rfl, ?_⟩ <;> rw [wrCycle, hrule]
  · rw [State.voice_update, State.voice_setVoice_self, State.voice_update]
  · exact State.setVoice_busValue ..
  · obtain ⟨hvoice, hframe⟩ := onlyVoice_setVoice k (g ((tick Config.tables s).voice k)) d (tick Config.tables s)
    rw [State.voice_update]
    exact ⟨fun j hj => (State.voice_update ..).trans (hvoice j hj), hframe⟩

/-! ## FREQ and PW (R81 to R84) -/

section
variable (k : VoiceId) (d : Byte) (s : State)

theorem writeReg_freqLo : writeReg (BitVec.ofNat 5 (k.base + 0)) d s = writeFreqLo k d (s.withBus d) := by
  cases k <;> rfl

theorem writeReg_freqHi : writeReg (BitVec.ofNat 5 (k.base + 1)) d s = writeFreqHi k d (s.withBus d) := by
  cases k <;> rfl

theorem writeReg_pwLo : writeReg (BitVec.ofNat 5 (k.base + 2)) d s = writePwLo k d (s.withBus d) := by
  cases k <;> rfl

theorem writeReg_pwHi : writeReg (BitVec.ofNat 5 (k.base + 3)) d s = writePwHi k d (s.withBus d) := by
  cases k <;> rfl

theorem writeReg_eq_setVoice {n : Nat} (hn : n < 4) :
    ∃ v, writeReg (BitVec.ofNat 5 (k.base + n)) d s = (s.withBus d).setVoice k v := by
  interval_cases n
  · exact ⟨_, writeReg_freqLo k d s⟩
  · exact ⟨_, writeReg_freqHi k d s⟩
  · exact ⟨_, writeReg_pwLo k d s⟩
  · exact ⟨_, writeReg_pwHi k d s⟩

/-- A rule for one oscillator applies to what it finds of it; the byte on the bus is no part of a voice. -/
theorem updOsc_withBus_voice (f : Osc → Osc) :
    ((s.withBus d).updOsc k f).voice k = { s.voice k with osc := f (s.voice k).osc } := by
  rw [State.updOsc_voice_self, State.voice_update]

end

/-- Settles O34: the four addresses reach the four rules, each a change of one field of the voice's oscillator. -/
theorem frequencyAndPulseWidthRegisters : Obligations.FrequencyAndPulseWidthRegisters := by
  refine ⟨fun k d s => ?_, fun s => ⟨fun hfreq => ?_, fun hfreq => ?_, fun hpw => ?_, fun hpw => ?_, ?_⟩⟩
  · dsimp only
    rw [writeReg_freqLo, writeReg_freqHi, writeReg_pwLo, writeReg_pwHi, writeFreqLo, writeFreqHi, writePwLo, writePwHi]
    simp only [updOsc_withBus_voice]
    refine ⟨fun n hn => ?_, withFreqLo_toNat _ d, trivial, withFreqHi_toNat _ d, trivial, withPwLo_toNat _ d, trivial,
      withPwHi_toNat _ d, trivial⟩
    obtain ⟨v, hv⟩ := writeReg_eq_setVoice k d s hn
    rw [hv]
    exact ⟨onlyVoice_setVoice k v d s, State.setVoice_busValue .., State.setVoice_dataOut ..⟩
  · change withFreqLo s.voice1.osc.freq 0xFF#8 = _
    rw [hfreq]
    rfl
  · change withFreqHi (withFreqLo s.voice1.osc.freq 0x00#8) 0x10#8 = _
    rw [hfreq]
    rfl
  · change withPwLo s.voice2.osc.pw 0x34#8 = _
    rw [hpw]
    rfl
  · change withPwHi s.voice2.osc.pw 0xF8#8 = _
    rw [hpw]
    rfl
  · have hnibble : loNibble 0xF8#8 = loNibble 0x08#8 := rfl
    change withPwHi s.voice2.osc.pw 0xF8#8 = withPwHi s.voice2.osc.pw 0x08#8
    rw [withPwHi, withPwHi, hnibble]

/-- Settles O35: each operation is a cycle whose rule changes one field of the voice's oscillator. -/
theorem frequencyAndPulseWidthWrites : Obligations.FrequencyAndPulseWidthWrites := by
  intro k d s
  refine ⟨?_, ?_, ?_, ?_⟩
  · obtain ⟨t, ht, hvoice, hframe⟩ := exec_voiceRule (exec_wrFreqLo k d s)
      (g := fun v => { v with osc := { v.osc with freq := withFreqLo v.osc.freq d } }) fun _ => rfl
    exact ⟨t, ht, ⟨by rw [hvoice]; exact withFreqLo_toNat _ d, by rw [hvoice]⟩, hframe⟩
  · obtain ⟨t, ht, hvoice, hframe⟩ := exec_voiceRule (exec_wrFreqHi k d s)
      (g := fun v => { v with osc := { v.osc with freq := withFreqHi v.osc.freq d } }) fun _ => rfl
    exact ⟨t, ht, ⟨by rw [hvoice]; exact withFreqHi_toNat _ d, by rw [hvoice]⟩, hframe⟩
  · obtain ⟨t, ht, hvoice, hframe⟩ := exec_voiceRule (exec_wrPwLo k d s)
      (g := fun v => { v with osc := { v.osc with pw := withPwLo v.osc.pw d } }) fun _ => rfl
    exact ⟨t, ht, ⟨by rw [hvoice]; exact withPwLo_toNat _ d, by rw [hvoice]⟩, hframe⟩
  · obtain ⟨t, ht, hvoice, hframe⟩ := exec_voiceRule (exec_wrPwHi k d s)
      (g := fun v => { v with osc := { v.osc with pw := withPwHi v.osc.pw d } }) fun _ => rfl
    exact ⟨t, ht, ⟨by rw [hvoice]; exact withPwHi_toNat _ d, by rw [hvoice]⟩, hframe⟩

/-! ## CONTROL (R85 to R87, R114 to R116) -/

theorem exec_wrControl (k : VoiceId) (d : Byte) (s : State) :
    exec (k.wrControl d) s = .next (wrCycle Config.tables (writeControl k d) d s) := by
  cases k <;> rfl

section
variable (d : Byte) (o : Osc)

theorem oscControl_of_test_rises (hold : o.test = false) (hnew : testBit d = true) :
    (oscControl d o).acc = 0 ∧ (oscControl d o).lfsr = 0 ∧ (oscControl d o).msbRising = false := by
  simp [oscControl, rises, hold, hnew]

theorem oscControl_of_test_falls (hold : o.test = true) (hnew : testBit d = false) :
    (oscControl d o).acc = o.acc ∧ (oscControl d o).lfsr = 0x7FFFF8#23 ∧ (oscControl d o).msbRising = o.msbRising := by
  simp [oscControl, rises, falls, lfsrSeed, hold, hnew]

theorem oscControl_of_test_stays (hsame : o.test = testBit d) :
    (oscControl d o).acc = o.acc ∧ (oscControl d o).lfsr = o.lfsr ∧ (oscControl d o).msbRising = o.msbRising := by
  simp [oscControl, rises, falls, hsame]

end

/-- Settles O36: the rule applies its TEST part to the oscillator and its gate part to the envelope generator the TICK
left. -/
theorem controlWrites : Obligations.ControlWrites := by
  intro k d s
  obtain ⟨t, ht, hvoice, hbus, hdata, hframe⟩ := exec_voiceRule (exec_wrControl k d s) (writeControl_eq_setVoice k d)
  dsimp only
  rw [Voice.control] at hvoice
  refine ⟨t, ht, hbus, hdata, hframe, ?_⟩
  rw [hvoice]
  exact ⟨hiNibble_toNat d, rfl, rfl, rfl, rfl, rfl, oscControl_of_test_rises d _, oscControl_of_test_falls d _,
    oscControl_of_test_stays d _, envControl_of_gate_rises d _, envControl_of_gate_falls d _,
    envControl_of_gate_stays d _⟩

/-! ## ATTACK_DECAY and SUSTAIN_RELEASE (R111, R112) -/

section
variable (k : VoiceId) (d : Byte) (s : State)

theorem exec_wrAttackDecay :
    exec (k.wrAttackDecay d) s = .next (wrCycle Config.tables (writeAttackDecay k d) d s) := by
  cases k <;> rfl

theorem exec_wrSustainRelease :
    exec (k.wrSustainRelease d) s = .next (wrCycle Config.tables (writeSustainRelease k d) d s) := by
  cases k <;> rfl

end

/-- Settles O37: each operation is a cycle whose rule puts the two nibbles into the voice's envelope generator. -/
theorem envelopeRegisterWrites : Obligations.EnvelopeRegisterWrites := by
  intro k d s
  refine ⟨?_, ?_⟩
  · obtain ⟨t, ht, hvoice, hbus, hdata, hframe⟩ := exec_voiceRule (exec_wrAttackDecay k d s)
      (g := fun v => { v with env := { v.env with attack := hiNibble d, decay := loNibble d } }) fun _ => rfl
    refine ⟨t, ht, hbus, hdata, hframe, ?_⟩
    rw [hvoice]
    exact ⟨hiNibble_toNat d, loNibble_toNat d, rfl⟩
  · obtain ⟨t, ht, hvoice, hbus, hdata, hframe⟩ := exec_voiceRule (exec_wrSustainRelease k d s)
      (g := fun v => { v with env := { v.env with sustain := hiNibble d, release := loNibble d } }) fun _ => rfl
    refine ⟨t, ht, hbus, hdata, hframe, ?_⟩
    rw [hvoice]
    exact ⟨hiNibble_toNat d, loNibble_toNat d, rfl⟩

/-! ## The filter's registers (R141 to R144) -/

/-- Settles O38: the two addresses reach the rules of FC_LO and FC_HI. -/
theorem cutoffRegisters : Obligations.CutoffRegisters := by
  refine ⟨fun d s => ⟨withFcLo_toNat _ d, rfl, withFcHi_toNat _ d, rfl⟩, fun s => ⟨fun hfc => ?_, fun hfc => ?_⟩⟩
  · change withFcLo s.filter.fc 0xFF#8 = _
    rw [hfc]
    rfl
  · change withFcHi s.filter.fc 0x80#8 = _
    rw [hfc]
    rfl

/-- Settles O39: each operation is a cycle whose rule changes fields of the filter. -/
theorem filterRegisterWrites : Obligations.FilterRegisterWrites := by
  intro d s
  exact ⟨⟨_, exec_wrFcLo d s, withFcLo_toNat _ d, rfl⟩, ⟨_, exec_wrFcHi d s, withFcHi_toNat _ d, rfl⟩,
    ⟨_, exec_decodeWr .resFilt d s, hiNibble_toNat d, loNibble_toNat d, rfl⟩,
    _, exec_decodeWr .modeVol d s, loNibble_toNat d, rfl⟩

end Sys2Proof.Machine
end

section
/-! Proofs of the statements of no other family: the routing, the mode mixer and the output of a state (R146 to R153,
R161 to R167), the filter and external-filter parts of a TICK (R149, R164), and the first cycles after RESET (R174,
R214). -/

namespace Sys2Proof.Machine

/-! ## Routing and mode mixer (R146, R147, R151, R153) -/

theorem boolInt_mul (b : Bool) (x : Int) : b.toInt * x = if b then x else 0 := by
  cases b <;> simp

/-- The bit of the routing mask in force for a source (R146, R153). -/
theorem routeMask_getLsbD (s : State) (i : Nat) :
    (routeMask s).getLsbD i = (s.straps.filterEn && s.filter.filt.getLsbD i) := by
  unfold routeMask
  cases s.straps.filterEn <;> simp

/-- With every bit of the routing mask clear no source goes to the filter. -/
theorem filterIn_of_routeMask {s : State} (h : routeMask s = 0) (T : Tables) : filterIn T s = 0 := by
  simp [filterIn, h]

theorem filterIn_of_not_filterEn (T : Tables) {s : State} (hen : s.straps.filterEn = false) : filterIn T s = 0 :=
  filterIn_of_routeMask (if_neg (Bool.eq_false_iff.mp hen)) T

/-- A source goes to the filter or past it. -/
theorem ite_zero_add_ite_zero (b : Bool) (x : Int) : (if b then x else 0) + (if b then 0 else x) = x := by
  cases b <;> simp

/-- Voice 3 goes to the filter or past it, but is left out of both when 3OFF is set and it is not filtered (R147). -/
theorem ite_zero_add_ite_or_zero (b off : Bool) (x : Int) :
    (if b then x else 0) + (if b || off then 0 else x) = if off = true ∧ b = false then 0 else x := by
  cases b <;> cases off <;> simp

/-- Settles O47: each source's part of the two sums, source by source. -/
theorem filterRouting : Obligations.FilterRouting := by
  intro T s
  refine ⟨?_, ?_, fun hen => ?_⟩
  · simp only [filterIn, routeMask_getLsbD, boolInt_mul, extSample]
  · simp only [filterIn, filterBypass, routeMask_getLsbD, extSample]
    have h1 := ite_zero_add_ite_zero (s.straps.filterEn && s.filter.filt.getLsbD 0) (voiceSample T s .v1)
    have h2 := ite_zero_add_ite_zero (s.straps.filterEn && s.filter.filt.getLsbD 1) (voiceSample T s .v2)
    have h3 := ite_zero_add_ite_or_zero (s.straps.filterEn && s.filter.filt.getLsbD 2) s.filter.voice3off
      (voiceSample T s .v3)
    have h4 := ite_zero_add_ite_zero (s.straps.filterEn && s.filter.filt.getLsbD 3) s.inputs.extIn.toInt
    linarith only [h1, h2, h3, h4]
  · exact filterIn_of_not_filterEn T hen

/-- Settles O52, by the strap. -/
theorem modeMixer : Obligations.ModeMixer := by
  refine fun s => ⟨fun hen => ?_, fun hen => ?_⟩
  · rw [filterTaps, if_pos hen, boolInt_mul, boolInt_mul, boolInt_mul]
  · rw [filterTaps, if_neg (Bool.eq_false_iff.mp hen)]

/-! ## The output (R161, R162, R167) -/

theorem scaledOut_eq_div (T : Tables) (s : State) : scaledOut T s = -internalOut T s / 2 ^ 10 :=
  floorShift_eq_div _ outShift

/-- Settles O53: AUDIO_OUT is a clamped value, which the 16-bit port holds, and the clamp moves no value within range. -/
theorem audioOutIsSixteenBits : Obligations.AudioOutIsSixteenBits := by
  intro T s
  obtain ⟨hlow, hhigh⟩ := audioOut_bounds T s
  refine ⟨scaledOut_eq_div T s, hlow, hhigh, ?_, fun hen h h' => ?_, fun hen h h' => ?_⟩
  · exact BitVec.toInt_ofInt_eq_self (by decide) hlow (Int.lt_add_one_of_le hhigh)
  · rw [audioOut_of_extfiltEn T hen, clamp16_eq_self h h']
  · rw [audioOut_of_not_extfiltEn T s hen, clamp16_eq_self h h']

/-! ## The filter and external-filter parts of a TICK (R149, R153, R164, R166) -/

section
variable (T : Tables) {s : State}

theorem tickFilter_of_not_filterEn (hen : s.straps.filterEn = false) : tickFilter T s = s :=
  if_neg (Bool.eq_false_iff.mp hen)

theorem tickExt_of_not_extfiltEn (hen : s.straps.extfiltEn = false) : tickExt T s = s :=
  if_neg (Bool.eq_false_iff.mp hen)

theorem tickExt_of_extfiltEn (hen : s.straps.extfiltEn = true) :
    tickExt T s = { s with ext := extStep (scaledOut T s) s.ext } :=
  if_pos hen

/-- What the external-filter part of a TICK samples is the `vi` of the state the whole TICK leaves: the part writes
nothing that `vi` reads. -/
theorem scaledOut_tickExt (s : State) : scaledOut T (tickExt T s) = scaledOut T s :=
  scaledOut_congr T (fun k => tickExt_voice T s k) (tickExt_straps T s) (tickExt_inputs T s) (tickExt_filter T s)

/-- The parts of a TICK before the external filter's leave the external filter and the strap that enables it. -/
theorem tick_ext_of_extfiltEn (hen : s.straps.extfiltEn = true) :
    (tick T s).ext = extStep (scaledOut T (tick T s)) s.ext := by
  have hen' : (tickFilter T (tickPhaseB (tickPhaseA (tickEnvelopes s)))).straps.extfiltEn = true := by simpa using hen
  rw [tick, scaledOut_tickExt, tickExt_of_extfiltEn T hen']
  simp

end

/-- Settles O49: the external filter takes one step on the `vi` of the state after the TICK. -/
theorem externalFilterTick : Obligations.ExternalFilterTick := by
  intro T s hen
  dsimp only
  rw [tick_ext_of_extfiltEn T hen]
  exact ⟨congrArg (s.ext.vhpExt + ·) (floorShift_eq_div _ shiftHp),
    congrArg (s.ext.vlpExt + ·) (floorShift_eq_div _ shiftLp)⟩

/-- Settles O50: a part whose strap is off leaves the state it finds. -/
theorem bypassFreezesTheFilters : Obligations.BypassFreezesTheFilters := by
  refine fun T s => ⟨fun hen => ?_, fun hen => ⟨?_, audioOut_of_not_extfiltEn T s hen⟩⟩
  · rw [tick_filter, tickFilter_of_not_filterEn T (by simpa using hen)]
    rfl
  · rw [tick, tickExt_of_not_extfiltEn T (by simpa using hen)]
    simp

/-! ## A state whose filter is at reset (R213) -/

section
variable (T : Tables) {s : State} (hfilter : s.filter = Filter.atReset)
include hfilter

theorem filterIn_of_filter_atReset : filterIn T s = 0 :=
  filterIn_of_routeMask (by rw [routeMask, hfilter]; exact ite_self _) T

theorem scaledOut_of_filter_atReset : scaledOut T s = 0 := by
  simp [scaledOut, internalOut, hfilter, Filter.atReset]

theorem tickFilter_of_filter_atReset : tickFilter T s = s := by
  cases hen : s.straps.filterEn
  · exact tickFilter_of_not_filterEn T hen
  · have hstep (w0 invQ : Int) : filterStep w0 invQ 0 Filter.atReset = Filter.atReset := by
      simp [filterStep, Filter.atReset]
    rw [tickFilter, if_pos hen, filterIn_of_filter_atReset T hfilter, hfilter, hstep, ← hfilter]

variable (hext : s.ext = ExtFilter.atReset)
include hext

theorem tickExt_of_atReset : tickExt T s = s := by
  cases hen : s.straps.extfiltEn
  · exact tickExt_of_not_extfiltEn T hen
  · have hstep : extStep 0 ExtFilter.atReset = ExtFilter.atReset := rfl
    rw [tickExt_of_extfiltEn T hen, scaledOut_of_filter_atReset T hfilter, hext, hstep, ← hext]

theorem audioOut_of_atReset : audioOut T s = 0 := by
  cases hen : s.straps.extfiltEn
  · rw [audioOut_of_not_extfiltEn T s hen, scaledOut_of_filter_atReset T hfilter]
    rfl
  · rw [audioOut_of_extfiltEn T hen, hext]
    rfl

end

/-! ## RESET and IDLE -/

/-- Settles O9: an idle cycle is the TICK with DATA_OUT not valid. -/
theorem idleIsOneTick : Obligations.IdleIsOneTick := exec_idle

theorem readReg_resetCycle (T : Tables) (s : State) (a : Addr) :
    readReg T a (resetCycle s) =
      if a.toNat = 25 then s.inputs.potX else if a.toNat = 26 then s.inputs.potY else 0 := by
  have hosc3 : readOsc3 T (resetCycle s) = 0 := by rw [readOsc3, waveOut_of_none T rfl]; rfl
  have henv3 : readEnv3 (resetCycle s) = 0 := rfl
  have hbus : readBus (resetCycle s) = 0 := rfl
  rw [readReg, hosc3, henv3, hbus, ite_self, ite_self]
  rfl

/-- Settles O8: with the filter and the external filter at reset AUDIO_OUT is 0 whatever the straps, and every register
beside the POT inputs shows a reset value. -/
theorem resetOutputs : Obligations.ResetOutputs :=
  fun s => ⟨resetCycle s, exec_reset s, audioOut_of_atReset Config.tables rfl rfl, readReg_resetCycle Config.tables s⟩

theorem phaseA_atReset : phaseA Osc.atReset = Osc.atReset := by decide

theorem envTick_atReset : envTick Env.atReset = { Env.atReset with rateCounter := 1 } := by decide

/-- Settles O11: with the filter and the external filter at reset a TICK is its envelope and oscillator parts: the
accumulators stand at `freq = 0` and each rate counter counts to 1. -/
theorem firstTickAfterReset : Obligations.FirstTickAfterReset := by
  intro T p x
  rw [tick, tickFilter_of_filter_atReset T rfl, tickExt_of_atReset T rfl rfl]
  simp only [tickEnvelopes, tickPhaseA, tickPhaseB, State.reset, Voice.atReset, phaseA_atReset, envTick_atReset]
  rfl

end Sys2Proof.Machine
end
